-- ==== Sys2Proof/Word.lean ====
section
/-! DEFINITION. Word widths of the block (00_scope.md R8, 30_encoding.md R112 to R116, R120). -/

namespace Sys2Proof

/-- One byte on the serial link or one half of a data word (00_scope.md R8). -/
abbrev Byte := BitVec 8

/-- A 7-bit register address, 0..127 (20_memory.md R80). -/
abbrev Addr := BitVec 7

/-- A 16-bit data word (00_scope.md R8). -/
abbrev Data := BitVec 16

/-- A 32-bit frame word (30_encoding.md R114). -/
abbrev FrameWord := BitVec 32

/-- A 32-bit millisecond count that wraps (60_exceptions.md R343). -/
abbrev Millis := BitVec 32

/-- A 32-bit unsigned measurement in mV or mA (30_encoding.md R120). -/
abbrev Measure := BitVec 32

/-- A 16-bit set of fault bits (10_state.md R40). -/
abbrev FaultBits := BitVec 16

end Sys2Proof
end

