-- ==== Sys2Proof/Config.lean ====
section
/-! DEFINITION. What an implementation fixes (00_scope.md R7) and the free values (93_implementation_defined.md).
The parameters are one opaque constant, so every claim holds for every choice R7 admits. -/

namespace Sys2Proof

/-- The regulation modes (00_scope.md R12, 10_state.md R53). -/
inductive Mode where
  | cc | cv | cr | cp
  deriving DecidableEq, Repr

/-- The closed-loop modes, those the PI loop serves (00_scope.md R12). -/
inductive Loop where
  | cv | cr | cp
  deriving DecidableEq, Repr

/-- The debounce channels (10_state.md R57). -/
inductive Channel where
  | sensor | fan1 | fan2 | reg | fuse1 | fuse2 | fuse3 | fuse4
  deriving DecidableEq, Repr

/-- One value for each regulation mode. -/
structure PerMode (α : Type) where
  cc : α
  cv : α
  cr : α
  cp : α
  deriving DecidableEq, Repr

/-- The value of mode `m`. -/
def PerMode.get {α : Type} (x : PerMode α) : Mode → α
  | .cc => x.cc
  | .cv => x.cv
  | .cr => x.cr
  | .cp => x.cp

/-- One value for each closed-loop mode. -/
structure PerLoop (α : Type) where
  cv : α
  cr : α
  cp : α
  deriving DecidableEq, Repr

/-- The value of closed-loop mode `m`. -/
def PerLoop.get {α : Type} (x : PerLoop α) : Loop → α
  | .cv => x.cv
  | .cr => x.cr
  | .cp => x.cp

/-- One value for each debounce channel. -/
structure PerChannel (α : Type) where
  sensor : α
  fan1 : α
  fan2 : α
  reg : α
  fuse1 : α
  fuse2 : α
  fuse3 : α
  fuse4 : α
  deriving DecidableEq, Repr

/-- The value of channel `ch`. -/
def PerChannel.get {α : Type} (x : PerChannel α) : Channel → α
  | .sensor => x.sensor
  | .fan1 => x.fan1
  | .fan2 => x.fan2
  | .reg => x.reg
  | .fuse1 => x.fuse1
  | .fuse2 => x.fuse2
  | .fuse3 => x.fuse3
  | .fuse4 => x.fuse4

/-- `x` with channel `ch` at `v`. -/
def PerChannel.set {α : Type} (x : PerChannel α) (ch : Channel) (v : α) : PerChannel α :=
  match ch with
  | .sensor => { x with sensor := v }
  | .fan1 => { x with fan1 := v }
  | .fan2 => { x with fan2 := v }
  | .reg => { x with reg := v }
  | .fuse1 => { x with fuse1 := v }
  | .fuse2 => { x with fuse2 := v }
  | .fuse3 => { x with fuse3 := v }
  | .fuse4 => { x with fuse4 := v }

/-- The counter value after a debounce channel fires (00_scope.md R7, DEB_REARM). -/
inductive DebRearm where
  | holdBelow | saturate
  deriving DecidableEq, Repr

/-- The sign of the PI error (00_scope.md R7, PID_SIGN). -/
inductive Sign where
  | plus | minus
  deriving DecidableEq, Repr

/-- The statistics counters (10_state.md R56): mA·s, mW·s and seconds, unsigned, no width given. -/
structure Stats where
  mAs : Nat
  mWs : Nat
  secs : Nat
  deriving DecidableEq, Repr, Inhabited

/-- ALL_FAULTS, the union of fault bits 0 to 13 (10_state.md R41). -/
def allFaults : FaultBits := 0x3FFF

/-- SYNC, the reserved sync byte (00_scope.md R7, fixed). -/
def syncByte : Byte := 0xFF

/-- INTEG_LIMIT, the clamp bound of the integrator (00_scope.md R7, fixed). -/
def integLimit : Int := 100000

/-- R_SCALE, the factor of the derived resistance (00_scope.md R7, fixed). -/
def rScale : Nat := 1000

/-- The implementation parameters of 00_scope.md R7 that are not fixed, with the constraints R7 puts on them.
A field's default value is R7's default where it gives one, and otherwise a value of the example set P0 of
95_test_vectors.md; `Config.params` below is opaque, so no claim about the machine rests on any of them. -/
structure Params where
  /-- N_REGS, number of register-table entries. -/
  N_REGS : Nat := 32
  /-- QCAP, write-queue capacity in frames. -/
  QCAP : Nat := 64
  /-- READ_CODE_DIR, bit 7 of the address byte in the code of a read reply. -/
  READ_CODE_DIR : BitVec 1 := 1
  ADDR_STATUS : Addr := 0x01
  ADDR_FAULT : Addr := 0x02
  ADDR_FAULT_MASK : Addr := 0x03
  ADDR_ENABLE : Addr := 0x04
  ADDR_WDG : Addr := 0x05
  ADDR_MODE : Addr := 0x06
  ADDR_SP_CC : Addr := 0x07
  ADDR_SP_CV : Addr := 0x08
  ADDR_SP_CR : Addr := 0x09
  ADDR_SP_CP : Addr := 0x0A
  /-- NON_MASKABLE, the fault bits the mask can never disable (10_state.md R43). -/
  NON_MASKABLE : FaultBits := 0x000C
  /-- FAULT_MASK_RESET, the mask before NON_MASKABLE is ORed in at reset. -/
  FAULT_MASK_RESET : FaultBits := 0x3FFF
  /-- CRC_FAULT_ON_MISMATCH, whether a rejected frame triggers the CRC fault. -/
  CRC_FAULT_ON_MISMATCH : Bool := false
  /-- WDG_KEY, the magic key of the watchdog refresh. -/
  WDG_KEY : Data := 0xA5A5
  /-- WDG_TIMEOUT_MS, the communication watchdog timeout. -/
  WDG_TIMEOUT_MS : Nat := 3000
  /-- DEB_N[ch], the debounce thresholds. -/
  DEB_N : PerChannel Nat :=
    { sensor := 4, fan1 := 8, fan2 := 8, reg := 3, fuse1 := 3, fuse2 := 3, fuse3 := 3, fuse4 := 3 }
  /-- DEB_REARM, the counter after a channel fires. -/
  DEB_REARM : DebRearm := .holdBelow
  /-- FUSE_TRANSIENT_GATE, whether a fuse observation during a ramp counts as good. -/
  FUSE_TRANSIENT_GATE : Bool := true
  /-- REG_ERR_LIMIT[m], the regulation error limits. -/
  REG_ERR_LIMIT : PerMode Nat := { cc := 100, cv := 500, cr := 500, cp := 500 }
  SP_MIN : PerMode Nat := { cc := 0, cv := 1000, cr := 100, cp := 0 }
  SP_MAX : PerMode Nat := { cc := 10000, cv := 60000, cr := 60000, cp := 60000 }
  /-- SP_FROM_DATA[m], register data to the unclamped setpoint. -/
  SP_FROM_DATA : Mode → Data → Nat := fun _ d => d.toNat
  /-- DAC_BITS, the width of a DAC code. -/
  DAC_BITS : Nat := 12
  DAC_ZERO_CODE : Nat := 4095
  DAC_MIN_CODE : Nat := 4000
  /-- CC_CODE, a constant-current setpoint in mA to its DAC code. -/
  CC_CODE : Nat → Nat := fun mA => 4000 - mA
  /-- SLEW_DELTA, the DAC code step per slew tick. -/
  SLEW_DELTA : Nat := 250
  KP : PerLoop Nat := { cv := 4, cr := 4, cp := 4 }
  KI : PerLoop Nat := { cv := 16, cr := 16, cp := 16 }
  PID_SIGN : PerLoop Sign := { cv := .plus, cr := .minus, cp := .minus }
  /-- P_SCALE, the divisor of the derived power. -/
  P_SCALE : Nat := 1000
  /-- R_INF, the derived resistance at zero current. -/
  R_INF : Nat := 4294967295
  n_regs_range : 1 ≤ N_REGS ∧ N_REGS ≤ 128 := by decide
  qcap_pos : 1 ≤ QCAP := by decide
  addrs_distinct :
    [ADDR_STATUS, ADDR_FAULT, ADDR_FAULT_MASK, ADDR_ENABLE, ADDR_WDG, ADDR_MODE,
      ADDR_SP_CC, ADDR_SP_CV, ADDR_SP_CR, ADDR_SP_CP].Nodup := by decide
  addrs_valid :
    ∀ a ∈ [ADDR_STATUS, ADDR_FAULT, ADDR_FAULT_MASK, ADDR_ENABLE, ADDR_WDG, ADDR_MODE,
      ADDR_SP_CC, ADDR_SP_CV, ADDR_SP_CR, ADDR_SP_CP], a.toNat < N_REGS := by decide
  non_maskable_subset : NON_MASKABLE &&& allFaults = NON_MASKABLE := by decide
  deb_n_pos : ∀ ch, 1 ≤ DEB_N.get ch := by intro ch; cases ch <;> decide
  sp_range : ∀ m, SP_MIN.get m ≤ SP_MAX.get m := by intro m; cases m <;> decide
  dac_zero_lt : DAC_ZERO_CODE < 2 ^ DAC_BITS := by decide
  dac_min_le : DAC_MIN_CODE ≤ DAC_ZERO_CODE := by decide
  cc_code_le : ∀ mA, CC_CODE mA ≤ DAC_ZERO_CODE := by
    intro mA; exact Nat.le_trans (Nat.sub_le _ _) (by decide)
  slew_delta_pos : 1 ≤ SLEW_DELTA := by decide
  kp_pos : ∀ m, 1 ≤ KP.get m := by intro m; cases m <;> decide
  ki_pos : ∀ m, 1 ≤ KI.get m := by intro m; cases m <;> decide
  p_scale_pos : 1 ≤ P_SCALE := by decide
  deriving Inhabited

/-- The parameters of this block. DESIGN CHOICE (log entry 1), safe: nothing is known of them but the
constraints in `Params`. -/
opaque Config.params : Params

/-- The statistics counters after the `n`-th event, when that event does not reset them: any value
(10_state.md R56, 93_implementation_defined.md). DESIGN CHOICE (log entry 5), safe. -/
opaque Config.freeStats : Nat → Stats

/-- What slot `k` of the queue holds before anything is written to it since reset number `n`: any value
(10_state.md R35, 93_implementation_defined.md). DESIGN CHOICE (log entry 6), safe. -/
opaque Config.freeSlot : Nat → Nat → FrameWord

end Sys2Proof
end

