-- ==== Sys2Proof/Syntax.lean ====
section
/-! DEFINITION. The events, the protocol states and the instructions: one constructor of `Instr` for each row of
spec/opcode_table.json. -/

namespace Sys2Proof

/-- The protocol states S_SYNC to S_TCK (10_state.md R31). -/
inductive PState where
  | sync | addr | dhi | dlo | ck | thi | tlo | tck
  deriving DecidableEq, Repr

/-- The observation operand of EV_PERIOD; true is a bad observation (44_debouncer.md R271). -/
structure Obs where
  otp : Bool
  ocp : Bool
  opp : Bool
  ext : Bool
  sensorBad : Bool
  fanBad1 : Bool
  fanBad2 : Bool
  fuseBad1 : Bool
  fuseBad2 : Bool
  fuseBad3 : Bool
  fuseBad4 : Bool
  deriving DecidableEq, Repr

/-- The port events, the block's only inputs (30_encoding.md R120). -/
inductive PortEvent where
  | rx (b : Byte)
  | txe
  | publish (a : Addr) (v : Data)
  | dequeue (now : Millis)
  | period (now : Millis) (vMv iMa : Measure) (obs : Obs)
  | sample (vMv iMa : Measure)
  | slewTick
  | setReady (r : Bool)
  | reset
  deriving DecidableEq, Repr

/-- What the environment presents next: one port event, or a run of bytes the master sends with no other event
between them (notation `RAW b0, b1, …` of 30_encoding.md R124); log entries 2 and 3. -/
inductive Stimulus where
  | event (e : PortEvent)
  | wire (first : Byte) (rest : List Byte)
  deriving DecidableEq, Repr

/-- The commands a received byte runs (30_encoding.md R118). -/
inductive RxCommand where
  | sync
  | discardSync (b : Byte)
  | readAddr (a : Addr)
  | writeAddr (a : Addr)
  | dataHi (d : Byte)
  | dataLo (d : Byte)
  | checksum (c : Byte)
  | discardTx (b : Byte)
  deriving DecidableEq, Repr

/-- The commands a transmit-empty event runs (30_encoding.md R118). -/
inductive TxCommand where
  | hi | lo | ck
  deriving DecidableEq, Repr

/-- The commands a dequeued frame runs (30_encoding.md R119). -/
inductive FrameCommand where
  | enable (d : Data)
  | mode (d : Data)
  | spCc (d : Data)
  | spCv (d : Data)
  | spCr (d : Data)
  | spCp (d : Data)
  | faultClear (d : Data)
  | faultMask (d : Data)
  | wdg (d : Data)
  | status (d : Data)
  | external (a : Addr) (d : Data)
  | badCode (a : Addr) (d : Data) (c : Byte)
  | invalidAddr (a : Addr) (d : Data)
  deriving DecidableEq, Repr

/-- The instructions: one constructor per row of spec/opcode_table.json, in its order. `now` is the clock of the
dequeue event that runs the frame (42_write_queue.md R195). -/
inductive Instr where
  | sync
  | rxDiscardSync (b : Byte)
  | readAddr (a : Addr)
  | writeAddr (a : Addr)
  | dataHi (d : Byte)
  | dataLo (d : Byte)
  | checksum (c : Byte)
  | rxDiscardTx (b : Byte)
  | txHi
  | txLo
  | txCk
  | writeFrame (a : Addr) (d : Data) (c : Byte)
  | readFrame (a : Addr)
  | wrEnable (d : Data) (now : Millis)
  | wrMode (d : Data)
  | wrSpCc (d : Data)
  | wrSpCv (d : Data)
  | wrSpCr (d : Data)
  | wrSpCp (d : Data)
  | wrFaultClear (d : Data)
  | wrFaultMask (d : Data)
  | wrWdg (d : Data) (now : Millis)
  | wrStatus (d : Data)
  | wrExternal (a : Addr) (d : Data)
  | wrBadCode (a : Addr) (d : Data) (c : Byte)
  | wrInvalidAddr (a : Addr) (d : Data)
  | evRx (b : Byte)
  | evTxe
  | evPublish (a : Addr) (v : Data)
  | evDequeue (now : Millis)
  | evPeriod (now : Millis) (vMv iMa : Measure) (obs : Obs)
  | evSample (vMv iMa : Measure)
  | evSlewTick
  | evSetReady (r : Bool)
  | evReset
  deriving DecidableEq, Repr

/-- An instruction before decoding, one constructor for each format of spec/opcode_table.json: a received byte with
the protocol state that meets it, a transmit-empty event with its protocol state, the bytes of a wire command, a
dequeued frame word with the dequeue's clock, a port event. -/
inductive Encoded where
  | rxByte (ps : PState) (b : Byte)
  | txByte (ps : PState)
  | wire (bytes : List Byte)
  | frameWord (now : Millis) (w : FrameWord)
  | event (e : PortEvent)
  deriving DecidableEq, Repr

end Sys2Proof
end

