-- ==== Sys2Proof/Machine/Operands.lean ====
section
/-! DEFINITION. Operand forms: bytes, addresses, data words and frame words (30_encoding.md R112 to R116), the
integrity code (40_register_table.md R140, R141, R144), the mode operand (43_fault_enable.md R230), setpoint
operands (R232), the measured quantity (44_debouncer.md R278) and the PI error (46_pid.md R311). -/

namespace Sys2Proof.Machine

/-! ## Bytes and words -/

/-- `d[15:8]`, the byte that travels first (20_memory.md R84). -/
def dataHigh (d : Data) : Byte := d.extractLsb' 8 8

/-- `d[7:0]`, the byte that travels second (20_memory.md R84). -/
def dataLow (d : Data) : Byte := d.extractLsb' 0 8

/-- `{dh, dl}` (20_memory.md R84). -/
def dataOfBytes (dh dl : Byte) : Data := dh ++ dl

/-- The address byte `{DIR, A[6:0]}` (30_encoding.md R112). -/
def addrByte (dir : BitVec 1) (a : Addr) : Byte := dir ++ a

/-- The DIR bit of an address byte: true is a read (30_encoding.md R112). -/
def isReadByte (b : Byte) : Bool := b.msb

/-- `b[6:0]`, the register address of an address byte (30_encoding.md R112, R116). -/
def byteAddr (b : Byte) : Addr := b.extractLsb' 0 7

/-- The bits of the frame word (30_encoding.md R114): address byte, data high, data low, code. -/
def frameOfBytes (ab dh dl c : Byte) : FrameWord := ab ++ dh ++ dl ++ c

/-- The frame word of a write of `d` to `a` with code byte `c`; bit 31 (DIR) is 0 (30_encoding.md R113, R114). -/
def frameOf (a : Addr) (d : Data) (c : Byte) : FrameWord :=
  frameOfBytes (addrByte 0 a) (dataHigh d) (dataLow d) c

/-- `w[30:24]` (42_write_queue.md R192). -/
def frameAddr (w : FrameWord) : Addr := w.extractLsb' 24 7

/-- `w[23:8]` (42_write_queue.md R192). -/
def frameData (w : FrameWord) : Data := w.extractLsb' 8 16

/-- `w[7:0]`, the code as received (30_encoding.md R114). -/
def frameCode (w : FrameWord) : Byte := w.extractLsb' 0 8

/-! ## The integrity code -/

/-- `ck8(x, hi, lo) = ~(x ^ hi ^ lo)` (40_register_table.md R140). -/
def ck8 (x hi lo : Byte) : Byte := ~~~(x ^^^ hi ^^^ lo)

/-- The code of a well-formed write frame, over the address byte with DIR = 0 (30_encoding.md R113). -/
def writeCode (a : Addr) (d : Data) : Byte := ck8 (addrByte 0 a) (dataHigh d) (dataLow d)

/-- `entry_code(a, v)`, the code of a read reply (40_register_table.md R141). -/
def entryCode (p : Params) (a : Addr) (v : Data) : Byte :=
  ck8 (addrByte p.READ_CODE_DIR a) (dataHigh v) (dataLow v)

/-- `frame_ok(w)` (40_register_table.md R144). -/
def frameOk (w : FrameWord) : Bool :=
  ck8 (w.extractLsb' 24 8 &&& 0x7F) (w.extractLsb' 16 8) (w.extractLsb' 8 8) == w.extractLsb' 0 8

/-! ## Addresses -/

/-- Whether the register table has an entry at `a` (20_memory.md R80, R82). -/
def validAddr (p : Params) (a : Addr) : Bool := decide (a.toNat < p.N_REGS)

/-- Whether the entry at `a` is a view of a block register (10_state.md R39). -/
def isMirror (p : Params) (a : Addr) : Bool :=
  a == p.ADDR_STATUS || a == p.ADDR_FAULT || a == p.ADDR_FAULT_MASK

/-- Whether `a` is one of the ten addresses the block decodes (30_encoding.md R119). -/
def isBlockAddr (p : Params) (a : Addr) : Bool :=
  isMirror p a || a == p.ADDR_ENABLE || a == p.ADDR_MODE || a == p.ADDR_WDG ||
    a == p.ADDR_SP_CC || a == p.ADDR_SP_CV || a == p.ADDR_SP_CR || a == p.ADDR_SP_CP

/-! ## Modes, setpoints, measured quantities -/

/-- The 2-bit encoding of a mode (10_state.md R53). -/
def modeCode : Mode → BitVec 2
  | .cc => 0
  | .cv => 1
  | .cr => 2
  | .cp => 3

/-- The mode a data word names; a value above 3 names none (43_fault_enable.md R230). -/
def modeOfData (d : Data) : Option Mode :=
  if d = 0 then some .cc
  else if d = 1 then some .cv
  else if d = 2 then some .cr
  else if d = 3 then some .cp
  else none

/-- The 3-bit encoding of the protocol state (10_state.md R31). -/
def pstateCode : PState → BitVec 3
  | .sync => 0
  | .addr => 1
  | .dhi => 2
  | .dlo => 3
  | .ck => 4
  | .thi => 5
  | .tlo => 6
  | .tck => 7

/-- The regulation mode a closed-loop mode is. -/
def loopMode : Loop → Mode
  | .cv => .cv
  | .cr => .cr
  | .cp => .cp

/-- The closed-loop mode a regulation mode is, none for CC (00_scope.md R12). -/
def modeLoop : Mode → Option Loop
  | .cc => none
  | .cv => some .cv
  | .cr => some .cr
  | .cp => some .cp

/-- `clamp(x, lo, hi) = min(max(x, lo), hi)` on unsigned values (00_scope.md R10). -/
def clampNat (x lo hi : Nat) : Nat := min (max x lo) hi

/-- `clamp(x, lo, hi) = min(max(x, lo), hi)` on integers (00_scope.md R10). -/
def clampInt (x lo hi : Int) : Int := min (max x lo) hi

/-- The setpoint a 16-bit data word assigns in mode `m` (43_fault_enable.md R232). -/
def setpointOf (p : Params) (m : Mode) (d : Data) : Nat :=
  clampNat (p.SP_FROM_DATA m d) (p.SP_MIN.get m) (p.SP_MAX.get m)

/-- `measured(m, V, I)` (44_debouncer.md R278). -/
def measured (p : Params) (m : Mode) (vMv iMa : Measure) : Nat :=
  match m with
  | .cc => iMa.toNat
  | .cv => vMv.toNat
  | .cr => if iMa.toNat = 0 then p.R_INF else vMv.toNat * rScale / iMa.toNat
  | .cp => vMv.toNat * iMa.toNat / p.P_SCALE

/-- The integer a sign multiplies by (00_scope.md R7, PID_SIGN). -/
def signValue : Sign → Int
  | .plus => 1
  | .minus => -1

/-- `err(m, V, I)` for setpoint `target` (46_pid.md R311). -/
def pidError (p : Params) (m : Loop) (target : Nat) (vMv iMa : Measure) : Int :=
  signValue (p.PID_SIGN.get m) * ((target : Int) - (measured p (loopMode m) vMv iMa : Int))

/-- `a div b`, integer division truncating toward zero (00_scope.md R10). -/
def divTrunc (a : Int) (b : Nat) : Int := a.tdiv b

end Sys2Proof.Machine
end

