-- ==== Sys2Proof/WellFormed.lean ====
section
/-! DEFINITION. Which instruction terms stand for a word of spec/opcode_table.json: the conditions of its rows
(30_encoding.md R118, R119) on their operands. -/

namespace Sys2Proof

open Sys2Proof.Machine

/-- The conditions an instruction's row puts on its operands. -/
def Instr.wellFormed (i : Instr) (p : Params := Config.params) : Bool :=
  match i with
  | .sync => true
  | .rxDiscardSync b => b != syncByte
  | .readAddr _ => true
  | .writeAddr _ => true
  | .dataHi _ => true
  | .dataLo _ => true
  | .checksum _ => true
  | .rxDiscardTx _ => true
  | .txHi => true
  | .txLo => true
  | .txCk => true
  | .writeFrame _ _ _ => true
  | .readFrame _ => true
  | .wrEnable _ _ => true
  | .wrMode _ => true
  | .wrSpCc _ => true
  | .wrSpCv _ => true
  | .wrSpCr _ => true
  | .wrSpCp _ => true
  | .wrFaultClear _ => true
  | .wrFaultMask _ => true
  | .wrWdg _ _ => true
  | .wrStatus _ => true
  | .wrExternal a _ => validAddr p a && !isBlockAddr p a
  | .wrBadCode a d c => c != writeCode a d
  | .wrInvalidAddr a _ => !validAddr p a
  | .evRx _ => true
  | .evTxe => true
  | .evPublish _ _ => true
  | .evDequeue _ => true
  | .evPeriod _ _ _ _ => true
  | .evSample _ _ => true
  | .evSlewTick => true
  | .evSetReady _ => true
  | .evReset => true

end Sys2Proof
end

