-- ==== Sys2Proof/Decode.lean ====
section
/-! DEFINITION. The decoder, total, with named rejections (30_encoding.md R118 to R120), and the encoder written from
the same tables. -/

namespace Sys2Proof

open Sys2Proof.Machine

/-- Why an encoding names no instruction. -/
inductive DecodeError where
  /-- a transmit-empty event in a state that sends nothing (30_encoding.md R118) -/
  | notTransmitting
  /-- the first byte of a wire command is not 0xFF (30_encoding.md R113, R115) -/
  | noSyncByte
  /-- a write command that has not exactly five bytes (30_encoding.md R113, R117) -/
  | writeLength
  /-- a read command that has not exactly two bytes (30_encoding.md R115, R117) -/
  | readLength
  /-- a run of fewer than two bytes is no wire command (30_encoding.md R113, R115) -/
  | tooShort
  /-- bit 31 of a frame word is 1 (30_encoding.md R114: always 0 for a queued frame) -/
  | directionBitSet
  deriving DecidableEq, Repr

/-- The decode map of a received byte (30_encoding.md R118). -/
def decodeRx (ps : PState) (b : Byte) : RxCommand :=
  match ps with
  | .sync => if b = syncByte then .sync else .discardSync b
  | .addr => if isReadByte b then .readAddr (byteAddr b) else .writeAddr (byteAddr b)
  | .dhi => .dataHi b
  | .dlo => .dataLo b
  | .ck => .checksum b
  | .thi => .discardTx b
  | .tlo => .discardTx b
  | .tck => .discardTx b

/-- The decode map of a transmit-empty event (30_encoding.md R118). -/
def decodeTx : PState → Option TxCommand
  | .thi => some .hi
  | .tlo => some .lo
  | .tck => some .ck
  | .sync => none
  | .addr => none
  | .dhi => none
  | .dlo => none
  | .ck => none

/-- The dispatch map of a frame word (30_encoding.md R119, 42_write_queue.md R192 to R198): the code is looked at
first, then the address range, then the address. -/
def decodeFrame (p : Params) (w : FrameWord) : FrameCommand :=
  let a := frameAddr w
  let d := frameData w
  if !frameOk w then .badCode a d (frameCode w)
  else if !validAddr p a then .invalidAddr a d
  else if a = p.ADDR_ENABLE then .enable d
  else if a = p.ADDR_MODE then .mode d
  else if a = p.ADDR_SP_CC then .spCc d
  else if a = p.ADDR_SP_CV then .spCv d
  else if a = p.ADDR_SP_CR then .spCr d
  else if a = p.ADDR_SP_CP then .spCp d
  else if a = p.ADDR_FAULT then .faultClear d
  else if a = p.ADDR_FAULT_MASK then .faultMask d
  else if a = p.ADDR_WDG then .wdg d
  else if a = p.ADDR_STATUS then .status d
  else .external a d

/-- The wire commands (30_encoding.md R113, R115, R117): the address byte's DIR bit decides the length. -/
def decodeWire (bytes : List Byte) : Except DecodeError Instr :=
  match bytes with
  | s :: ab :: rest =>
    if s ≠ syncByte then .error .noSyncByte
    else if isReadByte ab then
      match rest with
      | [] => .ok (.readFrame (byteAddr ab))
      | _ :: _ => .error .readLength
    else
      match rest with
      | [dh, dl, c] => .ok (.writeFrame (byteAddr ab) (dataOfBytes dh dl) c)
      | _ => .error .writeLength
  | _ => .error .tooShort

/-- The row of a received byte's command. -/
def instrOfRx : RxCommand → Instr
  | .sync => .sync
  | .discardSync b => .rxDiscardSync b
  | .readAddr a => .readAddr a
  | .writeAddr a => .writeAddr a
  | .dataHi d => .dataHi d
  | .dataLo d => .dataLo d
  | .checksum c => .checksum c
  | .discardTx b => .rxDiscardTx b

/-- The row of a transmit command. -/
def instrOfTx : TxCommand → Instr
  | .hi => .txHi
  | .lo => .txLo
  | .ck => .txCk

/-- The row of a frame command dequeued at time `now`. -/
def instrOfFrame (now : Millis) : FrameCommand → Instr
  | .enable d => .wrEnable d now
  | .mode d => .wrMode d
  | .spCc d => .wrSpCc d
  | .spCv d => .wrSpCv d
  | .spCr d => .wrSpCr d
  | .spCp d => .wrSpCp d
  | .faultClear d => .wrFaultClear d
  | .faultMask d => .wrFaultMask d
  | .wdg d => .wrWdg d now
  | .status d => .wrStatus d
  | .external a d => .wrExternal a d
  | .badCode a d c => .wrBadCode a d c
  | .invalidAddr a d => .wrInvalidAddr a d

/-- The row of a port event (30_encoding.md R120). -/
def instrOfEvent : PortEvent → Instr
  | .rx b => .evRx b
  | .txe => .evTxe
  | .publish a v => .evPublish a v
  | .dequeue now => .evDequeue now
  | .period now v i obs => .evPeriod now v i obs
  | .sample v i => .evSample v i
  | .slewTick => .evSlewTick
  | .setReady r => .evSetReady r
  | .reset => .evReset

/-- The decoder over all formats of spec/opcode_table.json. -/
def decode (e : Encoded) (p : Params := Config.params) : Except DecodeError Instr :=
  match e with
  | .rxByte ps b => .ok (instrOfRx (decodeRx ps b))
  | .txByte ps =>
    match decodeTx ps with
    | some c => .ok (instrOfTx c)
    | none => .error .notTransmitting
  | .wire bytes => decodeWire bytes
  | .frameWord now w =>
    if w.msb then .error .directionBitSet else .ok (instrOfFrame now (decodeFrame p w))
  | .event e => .ok (instrOfEvent e)

/-- What the next stimulus runs, and the stimuli it leaves behind: a port event runs its row; a run of bytes that is
one wire command runs that command; any other run of bytes is received byte by byte, one event each
(30_encoding.md R123, R124; log entry 3). -/
def decodeStimulus : Stimulus → Instr × List Stimulus
  | .event e => (instrOfEvent e, [])
  | .wire b rest =>
    match decodeWire (b :: rest) with
    | .ok i => (i, [])
    | .error _ => (.evRx b, rest.map fun x => .event (.rx x))

/-! ## The encoder -/

/-- The word of a frame with a correct code (30_encoding.md R113, R114). -/
def goodFrame (a : Addr) (d : Data) : FrameWord := frameOf a d (writeCode a d)

/-- The bytes of a write command (30_encoding.md R113). -/
def writeBytes (a : Addr) (d : Data) (c : Byte) : List Byte :=
  [syncByte, addrByte 0 a, dataHigh d, dataLow d, c]

/-- The bytes of a read command (30_encoding.md R115). -/
def readBytes (a : Addr) : List Byte := [syncByte, addrByte 1 a]

/-- The encoding of an instruction in its row's format. A frame row whose rule reads no clock is given clock 0, and
RX_DISCARD_TX, which has three protocol states, is given the first. -/
def encode (i : Instr) (p : Params := Config.params) : Encoded :=
  match i with
  | .sync => .rxByte .sync syncByte
  | .rxDiscardSync b => .rxByte .sync b
  | .readAddr a => .rxByte .addr (addrByte 1 a)
  | .writeAddr a => .rxByte .addr (addrByte 0 a)
  | .dataHi d => .rxByte .dhi d
  | .dataLo d => .rxByte .dlo d
  | .checksum c => .rxByte .ck c
  | .rxDiscardTx b => .rxByte .thi b
  | .txHi => .txByte .thi
  | .txLo => .txByte .tlo
  | .txCk => .txByte .tck
  | .writeFrame a d c => .wire (writeBytes a d c)
  | .readFrame a => .wire (readBytes a)
  | .wrEnable d now => .frameWord now (goodFrame p.ADDR_ENABLE d)
  | .wrMode d => .frameWord 0 (goodFrame p.ADDR_MODE d)
  | .wrSpCc d => .frameWord 0 (goodFrame p.ADDR_SP_CC d)
  | .wrSpCv d => .frameWord 0 (goodFrame p.ADDR_SP_CV d)
  | .wrSpCr d => .frameWord 0 (goodFrame p.ADDR_SP_CR d)
  | .wrSpCp d => .frameWord 0 (goodFrame p.ADDR_SP_CP d)
  | .wrFaultClear d => .frameWord 0 (goodFrame p.ADDR_FAULT d)
  | .wrFaultMask d => .frameWord 0 (goodFrame p.ADDR_FAULT_MASK d)
  | .wrWdg d now => .frameWord now (goodFrame p.ADDR_WDG d)
  | .wrStatus d => .frameWord 0 (goodFrame p.ADDR_STATUS d)
  | .wrExternal a d => .frameWord 0 (goodFrame a d)
  | .wrBadCode a d c => .frameWord 0 (frameOf a d c)
  | .wrInvalidAddr a d => .frameWord 0 (goodFrame a d)
  | .evRx b => .event (.rx b)
  | .evTxe => .event .txe
  | .evPublish a v => .event (.publish a v)
  | .evDequeue now => .event (.dequeue now)
  | .evPeriod now v i obs => .event (.period now v i obs)
  | .evSample v i => .event (.sample v i)
  | .evSlewTick => .event .slewTick
  | .evSetReady r => .event (.setReady r)
  | .evReset => .event .reset

/-! ## Words numbered as spec/opcode_table.json numbers them (log entry 13) -/

/-- The protocol state in which the 8-bit word `b` is met: S_SYNC for 0xFF, S_ADDR for any other (the rows of
spec/opcode_table.json that fix bits of a byte are SYNC, READ_ADDR and WRITE_ADDR). -/
def tableBytePState (b : Byte) : PState := if b = syncByte then .sync else .addr

/-- The bytes of a wire command given as a number of `nbits` bits, its first byte highest; a write command given by
its first two bytes has operand bytes of zeros. -/
def tableWireBytes (nbits w : Nat) : List Byte :=
  if nbits = 40 then
    [BitVec.ofNat 8 (w >>> 32), BitVec.ofNat 8 (w >>> 24), BitVec.ofNat 8 (w >>> 16), BitVec.ofNat 8 (w >>> 8),
      BitVec.ofNat 8 w]
  else if isReadByte (BitVec.ofNat 8 w) then [BitVec.ofNat 8 (w >>> 8), BitVec.ofNat 8 w]
  else [BitVec.ofNat 8 (w >>> 8), BitVec.ofNat 8 w, 0, 0, 0]

/-- The encoding an `nbits`-bit word of spec/opcode_table.json stands for. -/
def tableEncoded (nbits w : Nat) : Option Encoded :=
  if nbits = 8 then some (.rxByte (tableBytePState (BitVec.ofNat 8 w)) (BitVec.ofNat 8 w))
  else if nbits = 16 then some (.wire (tableWireBytes 16 w))
  else if nbits = 32 then some (.frameWord 0 (BitVec.ofNat 32 w))
  else if nbits = 40 then some (.wire (tableWireBytes 40 w))
  else none

/-- The instruction the decoder reads from the `nbits`-bit word `w` of spec/opcode_table.json. -/
def decodeTableWord (nbits w : Nat) : Option Instr :=
  match tableEncoded nbits w with
  | none => none
  | some e =>
    match decode e with
    | .ok i => some i
    | .error _ => none

end Sys2Proof
end

