-- ==== Sys2Proof/Machine/State.lean ====
section
/-! DEFINITION. The block's state, as plain data: every piece of state 10_state.md names, then the model's own fields
(INVENTORY.md, State). -/

namespace Sys2Proof.Machine

/-- One entry of the register table: a 16-bit value and its 8-bit integrity code (10_state.md R38). -/
structure Entry where
  val : Data
  code : Byte
  deriving DecidableEq, Repr

/-- The state of the block and of its ports. -/
@[ext]
structure State where
  /-- protocol state (R31) -/
  pstate : PState
  /-- frame accumulator (R32) -/
  facc : BitVec 32
  /-- read latch (R33) -/
  rlat : BitVec 24
  /-- transmit-empty event enable (R34) -/
  txeEn : Bool
  /-- queue slots written since reset, by rising slot number (R35) -/
  qbuf : List (Nat × FrameWord)
  /-- the slot the next push writes (R36) -/
  qWr : Nat
  /-- the slot the next pop reads (R36) -/
  qRd : Nat
  /-- queue full (R36) -/
  qFull : Bool
  /-- register table, canonical: rising addresses, no entry equal to what an unlisted address reads as (R38) -/
  table : List (Nat × Entry)
  /-- FAULT (R40) -/
  fault : FaultBits
  /-- FAULT_MASK (R42) -/
  faultMask : FaultBits
  /-- the load is drawing current (R45) -/
  enabled : Bool
  /-- self-test passed (R46) -/
  ready : Bool
  /-- FAULT status flag (R47) -/
  faultActive : Bool
  /-- NOT-IN-REGULATION status flag (R48) -/
  nir : Bool
  /-- power-stage line 0 (R50) -/
  pwrEn0 : Bool
  /-- power-stage line 1 (R50) -/
  pwrEn1 : Bool
  /-- hardware fault indicator (R51) -/
  faultLed : Bool
  /-- analog front end in continuous conversion (R52) -/
  afeCont : Bool
  /-- regulation mode (R53) -/
  mode : Mode
  /-- setpoints (R54) -/
  sp : PerMode Nat
  /-- time of the last watchdog refresh (R55) -/
  wdgLast : Millis
  /-- statistics counters (R56) -/
  stats : Stats
  /-- debounce counters (R57) -/
  debCnt : PerChannel Nat
  /-- DAC code driven (R58) -/
  dacCode : Nat
  /-- DAC code the stepper ramps toward (R59) -/
  dacTarget : Nat
  /-- slew timer running (R60) -/
  slewRun : Bool
  /-- DAC transient flag (R62) -/
  transient : Bool
  /-- PI integrator (R63) -/
  integ : Int
  /-- MODEL's own: the stimuli still to come, next first (log entry 2) -/
  inbox : List Stimulus
  /-- MODEL's own: the bytes emitted on port tx, oldest first (log entry 4) -/
  tx : List Byte
  /-- MODEL's own: the strobes emitted on port wr_out, oldest first (log entry 4) -/
  wrOut : List (Addr × Data)
  /-- MODEL's own: the number of events fetched, which selects the free values (log entry 5) -/
  freeCtr : Nat
  /-- MODEL's own: selects what unwritten queue slots hold since the last reset (log entry 6) -/
  qSeed : Nat
  deriving DecidableEq, Repr

/-- Why a step stops with a fault: never. The block has no exceptions and no traps, every operation is total
(00_scope.md R11), so there is no constructor. -/
inductive Fault where
  deriving DecidableEq, Repr

/-- Why a step is refused. -/
inductive Refusal where
  /-- raised by an arm of `exec` for an instruction without a meaning; no arm raises it. Safe. -/
  | notModelled (mnemonic : String)
  deriving DecidableEq, Repr

/-- The state after power-on reset under parameters `p`: every register at its value of 70_reset_and_hazards.md R361,
the model's own fields empty or 0 (log entries 2, 4, 5, 6). -/
def State.resetOf (p : Params) : State where
  pstate := .sync
  facc := 0
  rlat := 0
  txeEn := false
  qbuf := []
  qWr := 0
  qRd := 0
  qFull := false
  table := []
  fault := 0
  faultMask := (p.FAULT_MASK_RESET ||| p.NON_MASKABLE) &&& allFaults
  enabled := false
  ready := false
  faultActive := false
  nir := false
  pwrEn0 := false
  pwrEn1 := false
  faultLed := false
  afeCont := false
  mode := .cc
  sp := p.SP_MIN
  wdgLast := 0
  stats := { mAs := 0, mWs := 0, secs := 0 }
  debCnt := { sensor := 0, fan1 := 0, fan2 := 0, reg := 0, fuse1 := 0, fuse2 := 0, fuse3 := 0, fuse4 := 0 }
  dacCode := p.DAC_ZERO_CODE
  dacTarget := p.DAC_ZERO_CODE
  slewRun := false
  transient := false
  integ := 0
  inbox := []
  tx := []
  wrOut := []
  freeCtr := 0
  qSeed := 0

/-- The machine right after reset (70_reset_and_hazards.md R361). -/
def State.reset : State := State.resetOf Config.params

end Sys2Proof.Machine
end

