-- ==== Sys2Proof/Machine/Flags.lean ====
section
/-! DEFINITION. The fault bits (10_state.md R40), STATUS and the named enable states (R44, R49), the fault condition
and the indicator line (43_fault_enable.md R223, R224), and the output levels (30_encoding.md R121). -/

namespace Sys2Proof.Machine

/-! ## Fault bits (10_state.md R40) -/

/-- COMM, communication timeout, bit 0. -/
def bitComm : FaultBits := 0x0001

/-- CRC, integrity-check failure, bit 1. -/
def bitCrc : FaultBits := 0x0002

/-- OTP, over-temperature, bit 2. -/
def bitOtp : FaultBits := 0x0004

/-- OCP, over-current, bit 6. -/
def bitOcp : FaultBits := 0x0040

/-- OPP, over-power, bit 7. -/
def bitOpp : FaultBits := 0x0080

/-- EXT, external fault, bit 13. -/
def bitExt : FaultBits := 0x2000

/-- The fault bit a debounce channel triggers: SENSOR 3, FAN1 4, FAN2 5, REG 8, FUSE1..FUSE4 9..12. -/
def channelBit : Channel → FaultBits
  | .sensor => 0x0008
  | .fan1 => 0x0010
  | .fan2 => 0x0020
  | .reg => 0x0100
  | .fuse1 => 0x0200
  | .fuse2 => 0x0400
  | .fuse3 => 0x0800
  | .fuse4 => 0x1000

/-! ## Fault condition and indicator -/

/-- `FAULT & FAULT_MASK`, the latched causes that force the fault state. -/
def maskedFaults (s : State) : FaultBits := s.fault &&& s.faultMask

/-- Whether a masked cause is latched (43_fault_enable.md R223). -/
def faultCondition (s : State) : Bool := maskedFaults s != 0

/-- The level of the fault-indicator line: EXT alone does not light it (43_fault_enable.md R224). -/
def ledLevel (s : State) : Bool := maskedFaults s &&& ~~~bitExt != 0

/-! ## STATUS -/

/-- `STATUS = {12'b0, nir, ready, fault_active, enabled}` (10_state.md R44). -/
def State.status (s : State) : Data :=
  (0 : BitVec 12) ++ BitVec.ofBool s.nir ++ BitVec.ofBool s.ready ++ BitVec.ofBool s.faultActive ++
    BitVec.ofBool s.enabled

/-- The named enable states (10_state.md R49). -/
inductive EnableState where
  | disabled | readyDisabled | enabled | fault
  deriving DecidableEq, Repr

/-- The named enable state, first match wins (10_state.md R49). -/
def State.enableState (s : State) : EnableState :=
  if s.faultActive then .fault
  else if s.enabled then .enabled
  else if s.ready then .readyDisabled
  else .disabled

/-! ## Output levels -/

/-- The levels on the output ports (30_encoding.md R121). -/
structure Ports where
  txeEn : Bool
  dacCode : Nat
  pwrEn0 : Bool
  pwrEn1 : Bool
  faultLed : Bool
  afeCont : Bool
  transient : Bool
  deriving DecidableEq, Repr

/-- The output levels equal the registers (30_encoding.md R121); `transient` is `is_in_transient()`
(45_slew_dac.md R295). -/
def State.ports (s : State) : Ports :=
  { txeEn := s.txeEn, dacCode := s.dacCode, pwrEn0 := s.pwrEn0, pwrEn1 := s.pwrEn1, faultLed := s.faultLed,
    afeCont := s.afeCont, transient := s.transient }

end Sys2Proof.Machine
end

