-- ==== Sys2Proof/Machine/Ops.lean ====
section
/-! DEFINITION. The named operations over the register table, the write queue, the DAC, the enable state machine and
the fault register (00_scope.md R11), and the fetch of the next stimulus. -/

namespace Sys2Proof.Machine

/-- What an instruction answers. -/
abbrev Result := Host.Outcome State Fault Refusal

/-! ## Sparse lists, by rising key -/

/-- The value listed at key `a`. -/
def lookupAt {α : Type} : List (Nat × α) → Nat → Option α
  | [], _ => none
  | (k, v) :: rest, a => if k = a then some v else lookupAt rest a

/-- `l` with `v` listed at key `a`. -/
def insertAt {α : Type} : List (Nat × α) → Nat → α → List (Nat × α)
  | [], a, v => [(a, v)]
  | (k, u) :: rest, a, v =>
    if a < k then (a, v) :: (k, u) :: rest
    else if a = k then (a, v) :: rest
    else (k, u) :: insertAt rest a v

/-- `l` with nothing listed at key `a`. -/
def eraseAt {α : Type} : List (Nat × α) → Nat → List (Nat × α)
  | [], _ => []
  | (k, u) :: rest, a => if k = a then rest else (k, u) :: eraseAt rest a

/-- Whether every key lies above `lo`. -/
def keysAbove {α : Type} (lo : Nat) (l : List (Nat × α)) : Bool := l.all fun c => decide (lo < c.1)

/-- Whether the keys rise strictly. -/
def keysRise {α : Type} : List (Nat × α) → Bool
  | [] => true
  | (k, _) :: rest => keysAbove k rest && keysRise rest

/-! ## Register table (10_state.md R38, R39) -/

/-- What an address nothing has published to reads as: value 0 and its code (10_state.md R38, 90_conflicts.md C3). -/
def blankEntry (p : Params) (a : Addr) : Entry := { val := 0, code := entryCode p a 0 }

/-- The stored entry at `a`: `T.val[a]` and `T.code[a]` of an entry that is no mirror. -/
def tableEntry (p : Params) (t : List (Nat × Entry)) (a : Addr) : Entry :=
  (lookupAt t a.toNat).getD (blankEntry p a)

/-- The table with entry `e` at `a`, in canonical form. -/
def tableWrite (p : Params) (t : List (Nat × Entry)) (a : Addr) (e : Entry) : List (Nat × Entry) :=
  if e = blankEntry p a then eraseAt t a.toNat else insertAt t a.toNat e

/-- The canonical form of the register table: rising addresses below N_REGS, no blank entry listed. -/
def Memory.wf (t : List (Nat × Entry)) (p : Params := Config.params) : Bool :=
  keysRise t && t.all fun c => decide (c.1 < p.N_REGS) && decide (c.2 ≠ blankEntry p (BitVec.ofNat 7 c.1))

/-- `T.val[a]` with the mirrors as views of the block's registers; an invalid address reads 0
(10_state.md R39, 40_register_table.md R143). -/
def State.tableVal (s : State) (a : Addr) (p : Params := Config.params) : Data :=
  if !validAddr p a then 0
  else if a = p.ADDR_STATUS then s.status
  else if a = p.ADDR_FAULT then s.fault
  else if a = p.ADDR_FAULT_MASK then s.faultMask
  else (tableEntry p s.table a).val

/-- `T.code[a]` (10_state.md R38): the stored code, and for a mirror the code of the register it shows (R39). -/
def State.tableCode (s : State) (a : Addr) (p : Params := Config.params) : Byte :=
  if isMirror p a then entryCode p a (s.tableVal a p) else (tableEntry p s.table a).code

/-- `TableLookup(a)` as the 24 bits `{hi, lo, ck}` of a read reply (40_register_table.md R143). -/
def tableLookup (p : Params) (a : Addr) (s : State) : BitVec 24 :=
  let v := s.tableVal a p
  dataHigh v ++ dataLow v ++ entryCode p a v

/-- `TablePublish(a, v)` (40_register_table.md R142). -/
def tablePublish (p : Params) (a : Addr) (v : Data) (s : State) : State :=
  if validAddr p a && !isMirror p a then
    { s with table := tableWrite p s.table a { val := v, code := entryCode p a v } }
  else s

/-! ## Write-command queue (42_write_queue.md R190, R191) -/

/-- `qbuf[k]`; a slot not written since reset holds any value (10_state.md R35). -/
def queueSlot (s : State) (k : Nat) : FrameWord := (lookupAt s.qbuf k).getD (Config.freeSlot s.qSeed k)

/-- `q_empty` (10_state.md R37). -/
def queueEmpty (s : State) : Bool := s.qWr == s.qRd && !s.qFull

/-- `q_count` (10_state.md R37). -/
def queueCount (p : Params) (s : State) : Nat :=
  if s.qFull then p.QCAP else (s.qWr + p.QCAP - s.qRd) % p.QCAP

/-- `QPush(w)`: a full queue drops the frame (42_write_queue.md R190). -/
def queuePush (p : Params) (w : FrameWord) (s : State) : State :=
  if s.qFull then s
  else
    { s with
      qbuf := insertAt s.qbuf s.qWr w
      qWr := (s.qWr + 1) % p.QCAP
      qFull := (s.qWr + 1) % p.QCAP == s.qRd }

/-- `QPop()`: none when the queue is empty (42_write_queue.md R191). -/
def queuePop (p : Params) (s : State) : Option (FrameWord × State) :=
  if queueEmpty s then none
  else some (queueSlot s s.qRd, { s with qRd := (s.qRd + 1) % p.QCAP, qFull := false })

/-! ## DAC (45_slew_dac.md R290, R291, R293, R294) -/

/-- `dac_force(c)` (45_slew_dac.md R293). -/
def dacForce (c : Nat) (s : State) : State :=
  { s with dacCode := c, dacTarget := c, transient := false, slewRun := false }

/-- `set_current(mA, slew)` (45_slew_dac.md R290). -/
def setCurrent (p : Params) (mA : Nat) (slew : Bool) (s : State) : State :=
  if slew then
    { s with
      dacTarget := p.CC_CODE mA
      transient := p.CC_CODE mA != s.dacCode
      slewRun := p.CC_CODE mA != s.dacCode }
  else dacForce (p.CC_CODE mA) s

/-- `write_code(c)` (45_slew_dac.md R291). -/
def writeDacCode (p : Params) (c : Int) (s : State) : State :=
  dacForce (clampInt c 0 p.DAC_ZERO_CODE).toNat s

/-- `slew_step(c, t)`, one step of at most SLEW_DELTA toward the target (45_slew_dac.md R294). -/
def slewStep (p : Params) (c t : Nat) : Nat :=
  if t > c + p.SLEW_DELTA then c + p.SLEW_DELTA
  else if t + p.SLEW_DELTA < c then c - p.SLEW_DELTA
  else t

/-! ## Enable state machine (43_fault_enable.md R225, R226) -/

/-- Whether `enable(true)` succeeds, which is the value it returns (43_fault_enable.md R225). -/
def enableAllowed (s : State) : Bool := !s.enabled && s.ready && !faultCondition s

/-- `enable(true, now)`; a refused call changes nothing (43_fault_enable.md R225). -/
def enableTrue (p : Params) (now : Millis) (s : State) : State :=
  if enableAllowed s then
    let forced := { dacForce p.DAC_MIN_CODE s with pwrEn0 := true, pwrEn1 := true }
    let started :=
      if s.mode = .cc then setCurrent p (s.sp.get .cc) true forced
      else { forced with integ := 0, afeCont := true }
    { started with enabled := true, stats := { mAs := 0, mWs := 0, secs := 0 }, wdgLast := now }
  else s

/-- `enable(false)`, idempotent (43_fault_enable.md R226). -/
def enableFalse (p : Params) (s : State) : State :=
  if s.enabled then
    { dacForce p.DAC_ZERO_CODE s with
      pwrEn0 := false
      pwrEn1 := false
      enabled := false
      nir := false
      integ := 0
      afeCont := false }
  else s

/-! ## Fault register (43_fault_enable.md R220 to R224) -/

/-- `check_fault_conditions()` with `update_fault_led()` (43_fault_enable.md R223, R224). -/
def checkFaults (p : Params) (s : State) : State :=
  let off := if faultCondition s then enableFalse p s else s
  { off with faultActive := faultCondition s, faultLed := ledLevel s }

/-- TAKING A FAULT: `trigger(bits)` disables the load when a cause is masked, latches the causes and evaluates the
fault condition, all in one step; nothing is saved and there is no vector (43_fault_enable.md R220,
60_exceptions.md R338). -/
def trigger (p : Params) (bits : FaultBits) (s : State) : State :=
  let causes := bits &&& allFaults
  let off := if causes &&& s.faultMask != 0 then enableFalse p s else s
  checkFaults p { off with fault := off.fault ||| causes }

/-- LEAVING A FAULT, by removing causes: `clear(bits)`; the load stays disabled (43_fault_enable.md R221,
60_exceptions.md R339). -/
def clearFaults (p : Params) (bits : FaultBits) (s : State) : State :=
  checkFaults p { s with fault := s.fault &&& ~~~(bits &&& allFaults) }

/-- LEAVING A FAULT, by unmasking: `set_mask(M)`; the non-maskable bits stay set (43_fault_enable.md R222,
60_exceptions.md R339). -/
def setFaultMask (p : Params) (m : FaultBits) (s : State) : State :=
  checkFaults p { s with faultMask := (m ||| p.NON_MASKABLE) &&& allFaults }

/-! ## Reset and fetch -/

/-- Every register at its reset value (70_reset_and_hazards.md R360, R361). The stimuli still to come and the logs of
what was emitted are not the block's registers and stay; the unwritten queue slots hold fresh free values (log entry 6). -/
def resetBlock (p : Params) (s : State) : State :=
  { State.resetOf p with
    inbox := s.inbox, tx := s.tx, wrOut := s.wrOut, freeCtr := s.freeCtr, qSeed := s.freeCtr }

/-- Between resets the statistics counters hold any value (10_state.md R56): every event gives them a free value,
which a reset or a successful enable in that event overwrites with 0 (log entry 5). -/
def driftStats (s : State) : State :=
  { s with stats := Config.freeStats s.freeCtr, freeCtr := s.freeCtr + 1 }

/-- The next instruction and the state it runs in: the next stimulus leaves the inbox. None when the environment
presents nothing; the block then waits (70_reset_and_hazards.md R362). -/
def fetch (s : State) : Option (Instr × State) :=
  match s.inbox with
  | [] => none
  | stim :: rest =>
    some ((decodeStimulus stim).1, driftStats { s with inbox := (decodeStimulus stim).2 ++ rest })

end Sys2Proof.Machine
end

