-- ==== Sys2Proof/Machine/Period.lean ====
section
/-! DEFINITION. The period event: watchdog, immediate protections, debouncer and regulation quality
(43_fault_enable.md R238, 44_debouncer.md R270 to R279). -/

namespace Sys2Proof.Machine

/-- Whether the communication watchdog has expired at time `now` (43_fault_enable.md R238). -/
def wdgExpired (p : Params) (now : Millis) (s : State) : Bool :=
  s.enabled && decide ((now - s.wdgLast).toNat > p.WDG_TIMEOUT_MS)

/-- `wdg_check(now)` (43_fault_enable.md R238). -/
def wdgCheck (p : Params) (now : Millis) (s : State) : State :=
  if wdgExpired p now s then trigger p bitComm (enableFalse p s) else s

/-- `if bad: trigger(bit)`, one immediate protection (44_debouncer.md R272). -/
def protectOne (p : Params) (bit : FaultBits) (bad : Bool) (s : State) : State :=
  if bad then trigger p bit s else s

/-- `protect(obs)`: OTP, OCP, OPP, EXT in this order (44_debouncer.md R272). -/
def protect (p : Params) (obs : Obs) (s : State) : State :=
  protectOne p bitExt obs.ext
    (protectOne p bitOpp obs.opp (protectOne p bitOcp obs.ocp (protectOne p bitOtp obs.otp s)))

/-- `s` with the counter of channel `ch` at `n`. -/
def setCount (ch : Channel) (n : Nat) (s : State) : State := { s with debCnt := s.debCnt.set ch n }

/-- Channel `ch` reaches its threshold `n`: NIR for REG, the fault, and the re-arm value (44_debouncer.md R273). -/
def debFire (p : Params) (ch : Channel) (s : State) : State :=
  let n := p.DEB_N.get ch
  let reached := setCount ch n s
  let flagged := if ch = .reg then { reached with nir := true } else reached
  let raised := trigger p (channelBit ch) flagged
  match p.DEB_REARM with
  | .holdBelow => setCount ch (n - 1) raised
  | .saturate => raised

/-- `deb_step(ch, bad)` (44_debouncer.md R273). -/
def debStep (p : Params) (ch : Channel) (bad : Bool) (s : State) : State :=
  let c := s.debCnt.get ch
  if bad then
    if c < p.DEB_N.get ch then
      if c + 1 = p.DEB_N.get ch then debFire p ch s else setCount ch (c + 1) s
    else s
  else setCount ch (c - 1) s

/-- Whether `deb_step(ch, bad)` fires, the value it returns (44_debouncer.md R273). -/
def debFires (p : Params) (ch : Channel) (bad : Bool) (s : State) : Bool :=
  bad && s.debCnt.get ch + 1 == p.DEB_N.get ch

/-- `deb_step(FUSEk, fuse_bad_gated(k))`, the gate read as the earlier steps left it (44_debouncer.md R276). -/
def fuseStep (p : Params) (ch : Channel) (bad : Bool) (s : State) : State :=
  debStep p ch (bad && !(p.FUSE_TRANSIENT_GATE && s.transient)) s

/-- The regulation error, setpoint minus measured quantity of the active mode (44_debouncer.md R277). -/
def regError (p : Params) (vMv iMa : Measure) (s : State) : Int :=
  (s.sp.get s.mode : Int) - (measured p s.mode vMv iMa : Int)

/-- The regulation observation: bad above the mode's limit, never during a transient (44_debouncer.md R277). -/
def regBad (p : Params) (vMv iMa : Measure) (s : State) : Bool :=
  decide ((regError p vMv iMa s).natAbs > p.REG_ERR_LIMIT.get s.mode) && !s.transient

/-- `regulation_eval(v_mv, i_ma)` (44_debouncer.md R277). -/
def regulationEval (p : Params) (vMv iMa : Measure) (s : State) : State :=
  debStep p .reg (regBad p vMv iMa s) s

/-- The steps of a period before the regulation step, in the order of 44_debouncer.md R270. -/
def periodChecks (p : Params) (now : Millis) (obs : Obs) (s : State) : State :=
  let s1 := protect p obs (wdgCheck p now s)
  let s2 := debStep p .sensor obs.sensorBad s1
  let s3 := debStep p .fan1 obs.fanBad1 s2
  let s4 := debStep p .fan2 obs.fanBad2 s3
  let s5 := fuseStep p .fuse1 obs.fuseBad1 s4
  let s6 := fuseStep p .fuse2 obs.fuseBad2 s5
  let s7 := fuseStep p .fuse3 obs.fuseBad3 s6
  fuseStep p .fuse4 obs.fuseBad4 s7

/-- EV_PERIOD: the checks, then the regulation step while still enabled (44_debouncer.md R270). -/
def period (p : Params) (now : Millis) (vMv iMa : Measure) (obs : Obs) (s : State) : State :=
  let checked := periodChecks p now obs s
  if checked.enabled then regulationEval p vMv iMa checked else checked

/-- EV_PERIOD (44_debouncer.md R270). -/
def execEvPeriod (now : Millis) (vMv iMa : Measure) (obs : Obs) (s : State) (p : Params := Config.params) : Result :=
  .next (period p now vMv iMa obs s)

end Sys2Proof.Machine
end

