-- ==== Sys2Proof/Machine/Regulation.lean ====
section
/-! DEFINITION. The PI regulation loop (46_pid.md R310 to R313). -/

namespace Sys2Proof.Machine

/-- `integ` after one PI step with error `e` (46_pid.md R312). -/
def nextInteg (p : Params) (m : Loop) (e integ : Int) : Int :=
  clampInt (integ + divTrunc e (p.KI.get m)) (-integLimit) integLimit

/-- `u`, the output of one PI step before its clamp; `integ` is this step's (46_pid.md R312). -/
def pidOutput (p : Params) (m : Loop) (e integ : Int) : Int :=
  (p.DAC_ZERO_CODE : Int) - (divTrunc e (p.KP.get m) + integ)

/-- `pid_update(m, V, I)`, on exact integers (46_pid.md R312). -/
def pidUpdate (p : Params) (m : Loop) (vMv iMa : Measure) (s : State) : State :=
  let e := pidError p m (s.sp.get (loopMode m)) vMv iMa
  let integ := nextInteg p m e s.integ
  writeDacCode p (clampInt (pidOutput p m e integ) 0 p.DAC_ZERO_CODE) { s with integ := integ }

/-- EV_SAMPLE: the loop runs only while enabled in a closed-loop mode (46_pid.md R310). -/
def sample (p : Params) (vMv iMa : Measure) (s : State) : State :=
  match modeLoop s.mode with
  | some m => if s.enabled then pidUpdate p m vMv iMa s else s
  | none => s

/-- EV_SAMPLE (46_pid.md R310). -/
def execEvSample (vMv iMa : Measure) (s : State) (p : Params := Config.params) : Result :=
  .next (sample p vMv iMa s)

end Sys2Proof.Machine
end

