-- ==== Sys2Proof/Machine/Slew.lean ====
section
/-! DEFINITION. The slew tick of the DAC stepper (45_slew_dac.md R292). -/

namespace Sys2Proof.Machine

/-- EV_SLEW_TICK: one step toward the target; landing on it ends the ramp. The event does not occur while
`slew_run = 0` (45_slew_dac.md R292, 30_encoding.md R120; log entry 10). -/
def slewTick (p : Params) (s : State) : State :=
  if s.slewRun then
    let c := slewStep p s.dacCode s.dacTarget
    if c = s.dacTarget then { s with dacCode := c, transient := false, slewRun := false }
    else { s with dacCode := c }
  else s

/-- EV_SLEW_TICK (45_slew_dac.md R292). -/
def execEvSlewTick (s : State) (p : Params := Config.params) : Result := .next (slewTick p s)

end Sys2Proof.Machine
end

