-- ==== Sys2Proof/Machine/Commands.lean ====
section
/-! DEFINITION. The commands a dequeued frame runs (42_write_queue.md R193 to R197, 43_fault_enable.md R227 to R237). -/

namespace Sys2Proof.Machine

/-- WR_ENABLE: nonzero requests enable, zero disables; the result is discarded (43_fault_enable.md R227). -/
def wrEnable (p : Params) (d : Data) (now : Millis) (s : State) : State :=
  if d ≠ 0 then enableTrue p now s else enableFalse p s

/-- WR_MODE: a value above 3 and the present mode are ignored (43_fault_enable.md R230). -/
def wrMode (p : Params) (d : Data) (s : State) : State :=
  match modeOfData d with
  | none => s
  | some m => if m = s.mode then s else { enableFalse p s with mode := m, integ := 0 }

/-- WR_SP_CC: the setpoint is clamped and stored, and an enabled CC load ramps to it (43_fault_enable.md R233). -/
def wrSpCc (p : Params) (d : Data) (s : State) : State :=
  let stored := { s with sp := { s.sp with cc := setpointOf p .cc d } }
  if s.enabled && s.mode = .cc then setCurrent p (setpointOf p .cc d) true stored else stored

/-- WR_SP_CV (43_fault_enable.md R234). -/
def wrSpCv (p : Params) (d : Data) (s : State) : State :=
  { s with sp := { s.sp with cv := setpointOf p .cv d } }

/-- WR_SP_CR (43_fault_enable.md R235). -/
def wrSpCr (p : Params) (d : Data) (s : State) : State :=
  { s with sp := { s.sp with cr := setpointOf p .cr d } }

/-- WR_SP_CP (43_fault_enable.md R236). -/
def wrSpCp (p : Params) (d : Data) (s : State) : State :=
  { s with sp := { s.sp with cp := setpointOf p .cp d } }

/-- WR_FAULT_CLEAR: write one to clear (43_fault_enable.md R228). -/
def wrFaultClear (p : Params) (d : Data) (s : State) : State := clearFaults p d s

/-- WR_FAULT_MASK (43_fault_enable.md R229). -/
def wrFaultMask (p : Params) (d : Data) (s : State) : State := setFaultMask p d s

/-- WR_WDG: only the key refreshes the watchdog (43_fault_enable.md R237). -/
def wrWdg (p : Params) (d : Data) (now : Millis) (s : State) : State :=
  if d = p.WDG_KEY then { s with wdgLast := now } else s

/-- WR_STATUS: no change (42_write_queue.md R196). -/
def wrStatus (_d : Data) (s : State) : State := s

/-- WR_EXTERNAL: `emit wr_out(a, d)` (42_write_queue.md R197). -/
def wrExternal (a : Addr) (d : Data) (s : State) : State := { s with wrOut := s.wrOut ++ [(a, d)] }

/-- WR_BAD_CODE: the frame is dropped, and the CRC cause raised only where the parameter says so
(42_write_queue.md R193). -/
def wrBadCode (p : Params) (s : State) : State :=
  if p.CRC_FAULT_ON_MISMATCH then trigger p bitCrc s else s

/-- WR_INVALID_ADDR: the frame is dropped (42_write_queue.md R194). -/
def wrInvalidAddr (_a : Addr) (_d : Data) (s : State) : State := s

/-- The dispatch of a frame command at time `now` (42_write_queue.md R195, R198). -/
def dispatch (p : Params) (now : Millis) (c : FrameCommand) (s : State) : State :=
  match c with
  | .enable d => wrEnable p d now s
  | .mode d => wrMode p d s
  | .spCc d => wrSpCc p d s
  | .spCv d => wrSpCv p d s
  | .spCr d => wrSpCr p d s
  | .spCp d => wrSpCp p d s
  | .faultClear d => wrFaultClear p d s
  | .faultMask d => wrFaultMask p d s
  | .wdg d => wrWdg p d now s
  | .status d => wrStatus d s
  | .external a d => wrExternal a d s
  | .badCode _ _ _ => wrBadCode p s
  | .invalidAddr a d => wrInvalidAddr a d s

/-- WR_ENABLE (43_fault_enable.md R227). -/
def execWrEnable (d : Data) (now : Millis) (s : State) (p : Params := Config.params) : Result :=
  .next (wrEnable p d now s)

/-- WR_MODE (43_fault_enable.md R230). -/
def execWrMode (d : Data) (s : State) (p : Params := Config.params) : Result := .next (wrMode p d s)

/-- WR_SP_CC (43_fault_enable.md R233). -/
def execWrSpCc (d : Data) (s : State) (p : Params := Config.params) : Result := .next (wrSpCc p d s)

/-- WR_SP_CV (43_fault_enable.md R234). -/
def execWrSpCv (d : Data) (s : State) (p : Params := Config.params) : Result := .next (wrSpCv p d s)

/-- WR_SP_CR (43_fault_enable.md R235). -/
def execWrSpCr (d : Data) (s : State) (p : Params := Config.params) : Result := .next (wrSpCr p d s)

/-- WR_SP_CP (43_fault_enable.md R236). -/
def execWrSpCp (d : Data) (s : State) (p : Params := Config.params) : Result := .next (wrSpCp p d s)

/-- WR_FAULT_CLEAR (43_fault_enable.md R228). -/
def execWrFaultClear (d : Data) (s : State) (p : Params := Config.params) : Result := .next (wrFaultClear p d s)

/-- WR_FAULT_MASK (43_fault_enable.md R229). -/
def execWrFaultMask (d : Data) (s : State) (p : Params := Config.params) : Result := .next (wrFaultMask p d s)

/-- WR_WDG (43_fault_enable.md R237). -/
def execWrWdg (d : Data) (now : Millis) (s : State) (p : Params := Config.params) : Result :=
  .next (wrWdg p d now s)

/-- WR_STATUS (42_write_queue.md R196). -/
def execWrStatus (d : Data) (s : State) : Result := .next (wrStatus d s)

/-- WR_EXTERNAL (42_write_queue.md R197). -/
def execWrExternal (a : Addr) (d : Data) (s : State) : Result := .next (wrExternal a d s)

/-- WR_BAD_CODE: neither the address nor the data is looked at (42_write_queue.md R193). -/
def execWrBadCode (_a : Addr) (_d : Data) (_c : Byte) (s : State) (p : Params := Config.params) : Result :=
  .next (wrBadCode p s)

/-- WR_INVALID_ADDR (42_write_queue.md R194). -/
def execWrInvalidAddr (a : Addr) (d : Data) (s : State) : Result := .next (wrInvalidAddr a d s)

end Sys2Proof.Machine
end

