-- ==== Sys2Proof/Machine/Supervisor.lean ====
section
/-! DEFINITION. The supervisor-side events that publish, dequeue, report the self-test and reset
(40_register_table.md R142, 42_write_queue.md R198, 43_fault_enable.md R231, 70_reset_and_hazards.md R360). -/

namespace Sys2Proof.Machine

/-- EV_DEQUEUE(now): one frame is popped, decoded and dispatched; an empty queue changes nothing
(42_write_queue.md R198). -/
def dequeue (p : Params) (now : Millis) (s : State) : State :=
  match queuePop p s with
  | none => s
  | some (w, popped) => dispatch p now (decodeFrame p w) popped

/-- EV_SET_READY(r) (43_fault_enable.md R231). -/
def setReady (r : Bool) (s : State) : State := { s with ready := r }

/-- EV_PUBLISH (40_register_table.md R142). -/
def execEvPublish (a : Addr) (v : Data) (s : State) (p : Params := Config.params) : Result :=
  .next (tablePublish p a v s)

/-- EV_DEQUEUE (42_write_queue.md R198). -/
def execEvDequeue (now : Millis) (s : State) (p : Params := Config.params) : Result := .next (dequeue p now s)

/-- EV_SET_READY (43_fault_enable.md R231). -/
def execEvSetReady (r : Bool) (s : State) : Result := .next (setReady r s)

/-- EV_RESET (70_reset_and_hazards.md R360). -/
def execEvReset (s : State) (p : Params := Config.params) : Result := .next (resetBlock p s)

end Sys2Proof.Machine
end

