-- ==== Sys2Proof/Machine/Receive.lean ====
section
/-! DEFINITION. The receive rules of the protocol engine (41_protocol_engine.md R160 to R167) and EV_RX. -/

namespace Sys2Proof.Machine

/-- SYNC (41_protocol_engine.md R160). -/
def rxSync (s : State) : State :=
  if s.pstate = .sync then { s with pstate := .addr } else s

/-- RX_DISCARD_SYNC: no change (41_protocol_engine.md R161). -/
def rxDiscardSync (_b : Byte) (s : State) : State := s

/-- READ_ADDR: the whole reply is latched now (41_protocol_engine.md R162). -/
def rxReadAddr (p : Params) (a : Addr) (s : State) : State :=
  if s.pstate = .addr then { s with rlat := tableLookup p a s, pstate := .thi, txeEn := true } else s

/-- WRITE_ADDR: `facc[31:24] <- {0, a}` (41_protocol_engine.md R163). -/
def rxWriteAddr (a : Addr) (s : State) : State :=
  if s.pstate = .addr then
    { s with facc := addrByte 0 a ++ s.facc.extractLsb' 0 24, pstate := .dhi }
  else s

/-- DATA_HI: `facc[23:16] <- d` (41_protocol_engine.md R164). -/
def rxDataHi (d : Byte) (s : State) : State :=
  if s.pstate = .dhi then
    { s with facc := s.facc.extractLsb' 24 8 ++ d ++ s.facc.extractLsb' 0 16, pstate := .dlo }
  else s

/-- DATA_LO: `facc[15:8] <- d` (41_protocol_engine.md R165). -/
def rxDataLo (d : Byte) (s : State) : State :=
  if s.pstate = .dlo then
    { s with facc := s.facc.extractLsb' 16 16 ++ d ++ s.facc.extractLsb' 0 8, pstate := .ck }
  else s

/-- CHECKSUM: the frame `{facc[31:8], c}` is queued as received (41_protocol_engine.md R166). -/
def rxChecksum (p : Params) (c : Byte) (s : State) : State :=
  if s.pstate = .ck then
    { queuePush p (s.facc.extractLsb' 8 24 ++ c) s with pstate := .sync }
  else s

/-- RX_DISCARD_TX: no change (41_protocol_engine.md R167). -/
def rxDiscardTx (_b : Byte) (s : State) : State := s

/-- EV_RX(b): the command the decode map gives for `pstate` and `b` (30_encoding.md R118). -/
def receive (p : Params) (b : Byte) (s : State) : State :=
  match decodeRx s.pstate b with
  | .sync => rxSync s
  | .discardSync b => rxDiscardSync b s
  | .readAddr a => rxReadAddr p a s
  | .writeAddr a => rxWriteAddr a s
  | .dataHi d => rxDataHi d s
  | .dataLo d => rxDataLo d s
  | .checksum c => rxChecksum p c s
  | .discardTx b => rxDiscardTx b s

/-- A run of received bytes, one EV_RX each. -/
def receiveAll (p : Params) : List Byte → State → State
  | [], s => s
  | b :: rest, s => receiveAll p rest (receive p b s)

/-- SYNC (41_protocol_engine.md R160). -/
def execSync (s : State) : Result := .next (rxSync s)

/-- RX_DISCARD_SYNC (41_protocol_engine.md R161). -/
def execRxDiscardSync (b : Byte) (s : State) : Result := .next (rxDiscardSync b s)

/-- READ_ADDR (41_protocol_engine.md R162). -/
def execReadAddr (a : Addr) (s : State) (p : Params := Config.params) : Result := .next (rxReadAddr p a s)

/-- WRITE_ADDR (41_protocol_engine.md R163). -/
def execWriteAddr (a : Addr) (s : State) : Result := .next (rxWriteAddr a s)

/-- DATA_HI (41_protocol_engine.md R164). -/
def execDataHi (d : Byte) (s : State) : Result := .next (rxDataHi d s)

/-- DATA_LO (41_protocol_engine.md R165). -/
def execDataLo (d : Byte) (s : State) : Result := .next (rxDataLo d s)

/-- CHECKSUM (41_protocol_engine.md R166). -/
def execChecksum (c : Byte) (s : State) (p : Params := Config.params) : Result := .next (rxChecksum p c s)

/-- RX_DISCARD_TX (41_protocol_engine.md R167). -/
def execRxDiscardTx (b : Byte) (s : State) : Result := .next (rxDiscardTx b s)

/-- EV_RX (30_encoding.md R118). -/
def execEvRx (b : Byte) (s : State) (p : Params := Config.params) : Result := .next (receive p b s)

end Sys2Proof.Machine
end

