-- ==== Sys2Proof/Machine/Transmit.lean ====
section
/-! DEFINITION. The transmit rules of the protocol engine (41_protocol_engine.md R168 to R170) and EV_TXE. -/

namespace Sys2Proof.Machine

/-- `emit tx(b)` (30_encoding.md R121). -/
def emitTx (b : Byte) (s : State) : State := { s with tx := s.tx ++ [b] }

/-- TX_HI (41_protocol_engine.md R168). -/
def txHi (s : State) : State :=
  if s.txeEn && s.pstate = .thi then { emitTx (s.rlat.extractLsb' 16 8) s with pstate := .tlo } else s

/-- TX_LO (41_protocol_engine.md R169). -/
def txLo (s : State) : State :=
  if s.txeEn && s.pstate = .tlo then { emitTx (s.rlat.extractLsb' 8 8) s with pstate := .tck } else s

/-- TX_CK: the last byte of the reply (41_protocol_engine.md R170). -/
def txCk (s : State) : State :=
  if s.txeEn && s.pstate = .tck then
    { emitTx (s.rlat.extractLsb' 0 8) s with pstate := .sync, txeEn := false }
  else s

/-- EV_TXE: the command the decode map gives for `pstate`; the event does not occur while `txe_en = 0`
(30_encoding.md R118, R120; log entry 10). -/
def transmit (s : State) : State :=
  match decodeTx s.pstate with
  | some .hi => txHi s
  | some .lo => txLo s
  | some .ck => txCk s
  | none => s

/-- TX_HI (41_protocol_engine.md R168). -/
def execTxHi (s : State) : Result := .next (txHi s)

/-- TX_LO (41_protocol_engine.md R169). -/
def execTxLo (s : State) : Result := .next (txLo s)

/-- TX_CK (41_protocol_engine.md R170). -/
def execTxCk (s : State) : Result := .next (txCk s)

/-- EV_TXE (30_encoding.md R120). -/
def execEvTxe (s : State) : Result := .next (transmit s)

end Sys2Proof.Machine
end

