-- ==== Sys2Proof/Machine/Wire.lean ====
section
/-! DEFINITION. The wire commands (30_encoding.md R113, R115): the run of the receive and transmit events their bytes
are, with no other event between them (log entry 3). -/

namespace Sys2Proof.Machine

/-- WRITE_FRAME: the five bytes are received in order, from whatever protocol state (30_encoding.md R113). -/
def wireWrite (p : Params) (a : Addr) (d : Data) (c : Byte) (s : State) : State :=
  receiveAll p (writeBytes a d c) s

/-- READ_FRAME: the two bytes are received, then the block sends the three reply bytes (30_encoding.md R115). -/
def wireRead (p : Params) (a : Addr) (s : State) : State :=
  transmit (transmit (transmit (receiveAll p (readBytes a) s)))

/-- WRITE_FRAME (30_encoding.md R113). -/
def execWriteFrame (a : Addr) (d : Data) (c : Byte) (s : State) (p : Params := Config.params) : Result :=
  .next (wireWrite p a d c s)

/-- READ_FRAME (30_encoding.md R115). -/
def execReadFrame (a : Addr) (s : State) (p : Params := Config.params) : Result := .next (wireRead p a s)

end Sys2Proof.Machine
end

