-- ==== Sys2Proof/Machine/Dispatch.lean ====
section
/-! DEFINITION. The meaning of every instruction, one arm per row of spec/opcode_table.json. -/

namespace Sys2Proof.Machine

def exec (i : Instr) (s : State) : Host.Outcome State Fault Refusal :=
  match i with
  | .sync => Sys2Proof.Machine.execSync s
  | .rxDiscardSync b => Sys2Proof.Machine.execRxDiscardSync b s
  | .readAddr a => Sys2Proof.Machine.execReadAddr a s
  | .writeAddr a => Sys2Proof.Machine.execWriteAddr a s
  | .dataHi d => Sys2Proof.Machine.execDataHi d s
  | .dataLo d => Sys2Proof.Machine.execDataLo d s
  | .checksum c => Sys2Proof.Machine.execChecksum c s
  | .rxDiscardTx b => Sys2Proof.Machine.execRxDiscardTx b s
  | .txHi => Sys2Proof.Machine.execTxHi s
  | .txLo => Sys2Proof.Machine.execTxLo s
  | .txCk => Sys2Proof.Machine.execTxCk s
  | .writeFrame a d c => Sys2Proof.Machine.execWriteFrame a d c s
  | .readFrame a => Sys2Proof.Machine.execReadFrame a s
  | .wrEnable d now => Sys2Proof.Machine.execWrEnable d now s
  | .wrMode d => Sys2Proof.Machine.execWrMode d s
  | .wrSpCc d => Sys2Proof.Machine.execWrSpCc d s
  | .wrSpCv d => Sys2Proof.Machine.execWrSpCv d s
  | .wrSpCr d => Sys2Proof.Machine.execWrSpCr d s
  | .wrSpCp d => Sys2Proof.Machine.execWrSpCp d s
  | .wrFaultClear d => Sys2Proof.Machine.execWrFaultClear d s
  | .wrFaultMask d => Sys2Proof.Machine.execWrFaultMask d s
  | .wrWdg d now => Sys2Proof.Machine.execWrWdg d now s
  | .wrStatus d => Sys2Proof.Machine.execWrStatus d s
  | .wrExternal a d => Sys2Proof.Machine.execWrExternal a d s
  | .wrBadCode a d c => Sys2Proof.Machine.execWrBadCode a d c s
  | .wrInvalidAddr a d => Sys2Proof.Machine.execWrInvalidAddr a d s
  | .evRx b => Sys2Proof.Machine.execEvRx b s
  | .evTxe => Sys2Proof.Machine.execEvTxe s
  | .evPublish a v => Sys2Proof.Machine.execEvPublish a v s
  | .evDequeue now => Sys2Proof.Machine.execEvDequeue now s
  | .evPeriod now vMv iMa obs => Sys2Proof.Machine.execEvPeriod now vMv iMa obs s
  | .evSample vMv iMa => Sys2Proof.Machine.execEvSample vMv iMa s
  | .evSlewTick => Sys2Proof.Machine.execEvSlewTick s
  | .evSetReady r => Sys2Proof.Machine.execEvSetReady r s
  | .evReset => Sys2Proof.Machine.execEvReset s

end Sys2Proof.Machine
end

