-- ==== Sys2Proof/Machine/Present.lean ====
section
/-! DEFINITION. Presenting a word of spec/opcode_table.json to the block as the next thing to run (log entry 13). -/

namespace Sys2Proof.Machine

/-- `s` with event `e` next in the inbox. -/
def presentEvent (e : PortEvent) (s : State) : State := { s with inbox := .event e :: s.inbox }

/-- `s` with `w` as the frame the next dequeue pops: pushed on an empty queue, else in place of the oldest frame. -/
def placeFrame (p : Params) (w : FrameWord) (s : State) : State :=
  if queueEmpty s then queuePush p w s else { s with qbuf := insertAt s.qbuf s.qRd w }

/-- `s` with the encoding `e` presented: a received byte in the protocol state its row names, a transmit-empty event
in its protocol state, the bytes of a wire command, a queued frame word with the event that dequeues it, or a port
event. -/
def presentEncoded (p : Params) (e : Encoded) (s : State) : State :=
  match e with
  | .rxByte ps b => presentEvent (.rx b) { s with pstate := ps }
  | .txByte ps => presentEvent .txe { s with pstate := ps, txeEn := true }
  | .wire [] => s
  | .wire (b :: rest) => { s with inbox := .wire b rest :: s.inbox }
  | .frameWord now w => presentEvent (.dequeue now) (placeFrame p w s)
  | .event e => presentEvent e s

/-- `s` with the `nbits`-bit word `w` of spec/opcode_table.json presented. -/
def placeWord (s : State) (nbits w : Nat) : State :=
  match tableEncoded nbits w with
  | none => s
  | some e => presentEncoded Config.params e s

end Sys2Proof.Machine
end

