-- ==== Sys2Proof/Machine/Step.lean ====
section
/-! DEFINITION. One step: the next stimulus is fetched and its instruction runs (00_scope.md R6). -/

namespace Sys2Proof.Machine

/-- One step of the block. With nothing presented it waits (70_reset_and_hazards.md R362). -/
def step (s : State) : Host.Outcome State Fault Refusal :=
  match fetch s with
  | none => .next s
  | some (i, fetched) => exec i fetched

/-- `s` with the `nbits`-bit word `w` of spec/opcode_table.json presented as the next thing to run (log entry 13). -/
def State.withFetchWord (s : State) (nbits w : Nat) : State := placeWord s nbits w

end Sys2Proof.Machine
end

