-- ==== Sys2Proof/Safety.lean ====
section
/-! DEFINITION. What a well-formed state of the block is, one predicate per sub-block, and when a state is safe. Each
clause is a rule of spec/ about every reachable state, or one the rules entail, but for the two clauses about the form of
a list, which are the model's choices (log entries 6 and 7). -/

namespace Sys2Proof.Machine

/-- Whether the block is sending a reply (10_state.md R34). -/
def transmitting (ps : PState) : Bool := ps = .thi || ps = .tlo || ps = .tck

/-- Protocol engine: `txe_en` is 1 exactly in the transmit states (10_state.md R34), and the address byte assembled
has DIR = 0 (41_protocol_engine.md R163). -/
structure State.EngineOk (s : State) : Prop where
  txe : s.txeEn = transmitting s.pstate
  dir : s.facc.msb = false

/-- Write queue: indices in range, full only with equal indices (10_state.md R36, R37), slots in range with DIR = 0
(30_encoding.md R114), and every frame in the queue was written since reset (10_state.md R35). That the slots are
listed by rising number is the model's choice (log entry 6). -/
structure State.QueueOk (s : State) (p : Params := Config.params) : Prop where
  wr : s.qWr < p.QCAP
  rd : s.qRd < p.QCAP
  full : s.qFull = true → s.qWr = s.qRd
  rise : keysRise s.qbuf = true
  slots : ∀ c ∈ s.qbuf, c.1 < p.QCAP ∧ c.2.msb = false
  written : ∀ k < queueCount p s, (lookupAt s.qbuf ((s.qRd + k) % p.QCAP)).isSome = true

/-- Register table: every code consistent with its value (10_state.md R38), nothing stored at a mirror (10_state.md
R39). That the list is canonical is the model's choice (log entry 7). -/
structure State.TableOk (s : State) (p : Params := Config.params) : Prop where
  canonical : Memory.wf s.table p = true
  coded : ∀ c ∈ s.table, c.2.code = entryCode p (BitVec.ofNat 7 c.1) c.2.val
  unmirrored : ∀ c ∈ s.table, isMirror p (BitVec.ofNat 7 c.1) = false

/-- Fault logic: reserved bits 0 (10_state.md R40), the mask invariants (R42), the fault flag and the line as
43_fault_enable.md R223 and R224 set them, no enabled load with a masked cause latched (R239). -/
structure State.FaultOk (s : State) (p : Params := Config.params) : Prop where
  defined : s.fault &&& ~~~allFaults = 0
  keeps : s.faultMask &&& p.NON_MASKABLE = p.NON_MASKABLE
  within : s.faultMask &&& ~~~allFaults = 0
  active : s.faultActive = faultCondition s
  led : s.faultLed = ledLevel s
  arbitration : s.enabled = true → faultCondition s = false

/-- Load lines and stepper: both power lines equal `enabled` (10_state.md R50), the front end continuous exactly while
enabled in a closed-loop mode (R52), NIR only while enabled (43_fault_enable.md R226), a disabled load at the
zero-current code with the integrator at 0 (R226), codes in range (10_state.md R58), `slew_run` equal to `transient`
(R61), which is 1 exactly while the code is not the target (45_slew_dac.md R295), and ramps only in an enabled CC
load (R291). -/
structure State.LoadOk (s : State) (p : Params := Config.params) : Prop where
  pwr0 : s.pwrEn0 = s.enabled
  pwr1 : s.pwrEn1 = s.enabled
  afe : s.afeCont = (s.enabled && s.mode != .cc)
  nirOn : s.nir = true → s.enabled = true
  off : s.enabled = false → s.dacCode = p.DAC_ZERO_CODE ∧ s.dacTarget = p.DAC_ZERO_CODE ∧ s.integ = 0
  code : s.dacCode ≤ p.DAC_ZERO_CODE
  target : s.dacTarget ≤ p.DAC_ZERO_CODE
  timer : s.slewRun = s.transient
  ramping : s.transient = (s.dacCode != s.dacTarget)
  ccOnly : s.transient = true → s.enabled = true ∧ s.mode = .cc

/-- Ranges of the stored numbers: setpoints (10_state.md R54), debounce counters (R57; at most N-1 under HOLD_BELOW,
44_debouncer.md R273), integrator (10_state.md R63). -/
structure State.RangesOk (s : State) (p : Params := Config.params) : Prop where
  setpoint : ∀ m, p.SP_MIN.get m ≤ s.sp.get m ∧ s.sp.get m ≤ p.SP_MAX.get m
  count : ∀ ch, s.debCnt.get ch ≤ p.DEB_N.get ch
  countHeld : p.DEB_REARM = .holdBelow → ∀ ch, s.debCnt.get ch < p.DEB_N.get ch
  integ : -integLimit ≤ s.integ ∧ s.integ ≤ integLimit

/-- All of the invariants of 10_state.md. -/
structure State.Ok (s : State) (p : Params := Config.params) : Prop where
  engine : s.EngineOk
  queue : s.QueueOk p
  table : s.TableOk p
  fault : s.FaultOk p
  load : s.LoadOk p
  ranges : s.RangesOk p

/-- A safe state: while a masked cause is latched, or while the load is disabled, the power stage is off and the DAC
drives the zero-current code (60_exceptions.md R338). -/
def State.Safe (s : State) (p : Params := Config.params) : Prop :=
  (faultCondition s = true ∨ s.enabled = false) →
    s.pwrEn0 = false ∧ s.pwrEn1 = false ∧ s.dacCode = p.DAC_ZERO_CODE

/-! ## Runs of one operation -/

/-- The pushes of `ws`, in order, with no pop between (42_write_queue.md R199). -/
def pushAll (p : Params) : List FrameWord → State → State
  | [], s => s
  | w :: rest, s => pushAll p rest (queuePush p w s)

/-- `n` pops in a row and the frames they return; an empty queue ends them (42_write_queue.md R199). -/
def popMany (p : Params) : Nat → State → List FrameWord × State
  | 0, s => ([], s)
  | n + 1, s =>
    match queuePop p s with
    | none => ([], s)
    | some (w, popped) => (w :: (popMany p n popped).1, (popMany p n popped).2)

/-- `n` bad observations of channel `ch` in a row (44_debouncer.md R279). -/
def badRun (p : Params) (ch : Channel) : Nat → State → State
  | 0, s => s
  | n + 1, s => debStep p ch true (badRun p ch n s)

/-- `n` slew ticks in a row (45_slew_dac.md R296). -/
def slewTicks (p : Params) : Nat → State → State
  | 0, s => s
  | n + 1, s => slewTick p (slewTicks p n s)

/-- The distance the ramp still has to go (45_slew_dac.md R296). -/
def rampDistance (s : State) : Nat := ((s.dacTarget : Int) - (s.dacCode : Int)).natAbs

end Sys2Proof.Machine
end

