-- ==== Sys2Proof/Certificates/Slice0/Obligations.lean ====
section
/-! DEFINITION. The statements for the provers, each with the rule of spec/ it formalises. Where a statement about
`exec` leaves the statistics counters unchanged, that is the model's choice (log entry 5): their accumulation is not
specified (10_state.md R56), and a step gives them a free value before it runs `exec`. -/

open Sys2Proof Sys2Proof.Machine

/-! ## Receive rules -/

/-- 41_protocol_engine.md R160: SYNC, as a row and as the byte 0xFF received. -/
def Obligations.SyncByteStartsFrame : Prop :=
  ∀ s : State,
    (s.pstate = .sync →
      exec .sync s = .next { s with pstate := .addr } ∧
      exec (.evRx 0xFF) s = .next { s with pstate := .addr }) ∧
    (s.pstate ≠ .sync → exec .sync s = .next s)

/-- 41_protocol_engine.md R161 and R167: discarded bytes. -/
def Obligations.DiscardedBytesChangeNothing : Prop :=
  ∀ (b : Byte) (s : State),
    exec (.rxDiscardSync b) s = .next s ∧
    exec (.rxDiscardTx b) s = .next s ∧
    (s.pstate = .sync → b ≠ 0xFF → exec (.evRx b) s = .next s) ∧
    (s.pstate = .thi ∨ s.pstate = .tlo ∨ s.pstate = .tck → exec (.evRx b) s = .next s)

/-- 41_protocol_engine.md R162 with 40_register_table.md R143: READ_ADDR latches the reply of the table lookup. -/
def Obligations.ReadAddressLatchesReply : Prop :=
  ∀ (a : Addr) (s : State),
    let v : Data :=
      if Config.params.N_REGS ≤ a.toNat then 0
      else if a = Config.params.ADDR_STATUS then
        (0 : BitVec 12) ++ BitVec.ofBool s.nir ++ BitVec.ofBool s.ready ++ BitVec.ofBool s.faultActive ++
          BitVec.ofBool s.enabled
      else if a = Config.params.ADDR_FAULT then s.fault
      else if a = Config.params.ADDR_FAULT_MASK then s.faultMask
      else (tableEntry Config.params s.table a).val
    let hi : Byte := v.extractLsb' 8 8
    let lo : Byte := v.extractLsb' 0 8
    let code : Byte := ~~~((Config.params.READ_CODE_DIR ++ a) ^^^ hi ^^^ lo)
    (s.pstate = .addr →
      exec (.readAddr a) s = .next { s with rlat := hi ++ lo ++ code, pstate := .thi, txeEn := true } ∧
      exec (.evRx ((1 : BitVec 1) ++ a)) s =
        .next { s with rlat := hi ++ lo ++ code, pstate := .thi, txeEn := true }) ∧
    (s.pstate ≠ .addr → exec (.readAddr a) s = .next s)

/-- 41_protocol_engine.md R163, R164, R165: the address and data bytes of a write frame. -/
def Obligations.WriteBytesFillAccumulator : Prop :=
  ∀ (a : Addr) (d : Byte) (s : State),
    (s.pstate = .addr →
      exec (.writeAddr a) s =
        .next { s with facc := ((0 : BitVec 1) ++ a : Byte) ++ s.facc.extractLsb' 0 24, pstate := .dhi } ∧
      exec (.evRx ((0 : BitVec 1) ++ a)) s = exec (.writeAddr a) s) ∧
    (s.pstate ≠ .addr → exec (.writeAddr a) s = .next s) ∧
    (s.pstate = .dhi →
      exec (.dataHi d) s =
        .next { s with facc := s.facc.extractLsb' 24 8 ++ d ++ s.facc.extractLsb' 0 16, pstate := .dlo } ∧
      exec (.evRx d) s = exec (.dataHi d) s) ∧
    (s.pstate ≠ .dhi → exec (.dataHi d) s = .next s) ∧
    (s.pstate = .dlo →
      exec (.dataLo d) s =
        .next { s with facc := s.facc.extractLsb' 16 16 ++ d ++ s.facc.extractLsb' 0 8, pstate := .ck } ∧
      exec (.evRx d) s = exec (.dataLo d) s) ∧
    (s.pstate ≠ .dlo → exec (.dataLo d) s = .next s)

/-- 41_protocol_engine.md R166 with 42_write_queue.md R190: CHECKSUM pushes the frame, or drops it when the queue is
full, and ends the frame either way. -/
def Obligations.ChecksumQueuesOrDropsFrame : Prop :=
  ∀ (c : Byte) (s : State),
    (s.pstate = .ck →
      exec (.evRx c) s = exec (.checksum c) s ∧
      (s.qFull = true → exec (.checksum c) s = .next { s with pstate := .sync }) ∧
      (s.qFull = false →
        ∃ t, exec (.checksum c) s = .next t ∧
          t = { s with
            pstate := .sync, qbuf := t.qbuf, qWr := (s.qWr + 1) % Config.params.QCAP,
            qFull := decide ((s.qWr + 1) % Config.params.QCAP = s.qRd) } ∧
          queueSlot t s.qWr = s.facc.extractLsb' 8 24 ++ c ∧
          ∀ k, k ≠ s.qWr → queueSlot t k = queueSlot s k)) ∧
    (s.pstate ≠ .ck → exec (.checksum c) s = .next s)

/-! ## Transmit rules -/

/-- 41_protocol_engine.md R168, R169, R170: each transmit-empty event sends one byte of the latch. -/
def Obligations.TransmitEmptySendsLatch : Prop :=
  ∀ s : State,
    (s.txeEn = true → s.pstate = .thi →
      exec .txHi s = .next { s with tx := s.tx ++ [s.rlat.extractLsb' 16 8], pstate := .tlo } ∧
      exec .evTxe s = exec .txHi s) ∧
    (s.txeEn = true → s.pstate = .tlo →
      exec .txLo s = .next { s with tx := s.tx ++ [s.rlat.extractLsb' 8 8], pstate := .tck } ∧
      exec .evTxe s = exec .txLo s) ∧
    (s.txeEn = true → s.pstate = .tck →
      exec .txCk s =
        .next { s with tx := s.tx ++ [s.rlat.extractLsb' 0 8], pstate := .sync, txeEn := false } ∧
      exec .evTxe s = exec .txCk s) ∧
    (s.txeEn = false ∨ s.pstate ≠ .thi → exec .txHi s = .next s) ∧
    (s.txeEn = false ∨ s.pstate ≠ .tlo → exec .txLo s = .next s) ∧
    (s.txeEn = false ∨ s.pstate ≠ .tck → exec .txCk s = .next s)

/-- 30_encoding.md R120 (the model's reading, log entry 10): a gated event whose gate is 0 changes nothing. -/
def Obligations.ClosedGatesChangeNothing : Prop :=
  ∀ s : State,
    (s.txeEn = false → exec .evTxe s = .next s) ∧
    (s.slewRun = false → exec .evSlewTick s = .next s)

/-- 30_encoding.md R118: the decode map of a received byte, and that EV_RX runs the row it gives. -/
def Obligations.ReceivedByteRunsDecodedRow : Prop :=
  (∀ b : Byte, instrOfRx (decodeRx .sync b) = if b = 0xFF then .sync else .rxDiscardSync b) ∧
  (∀ a : Addr, instrOfRx (decodeRx .addr ((1 : BitVec 1) ++ a)) = .readAddr a) ∧
  (∀ a : Addr, instrOfRx (decodeRx .addr ((0 : BitVec 1) ++ a)) = .writeAddr a) ∧
  (∀ b : Byte, instrOfRx (decodeRx .dhi b) = .dataHi b) ∧
  (∀ b : Byte, instrOfRx (decodeRx .dlo b) = .dataLo b) ∧
  (∀ b : Byte, instrOfRx (decodeRx .ck b) = .checksum b) ∧
  (∀ b : Byte, ∀ ps, ps = PState.thi ∨ ps = .tlo ∨ ps = .tck → instrOfRx (decodeRx ps b) = .rxDiscardTx b) ∧
  (∀ (b : Byte) (s : State), exec (.evRx b) s = exec (instrOfRx (decodeRx s.pstate b)) s) ∧
  (∀ (s : State), s.pstate = .thi → exec .evTxe s = exec .txHi s) ∧
  (∀ (s : State), s.pstate = .tlo → exec .evTxe s = exec .txLo s) ∧
  (∀ (s : State), s.pstate = .tck → exec .evTxe s = exec .txCk s)

/-! ## Wire commands -/

/-- 30_encoding.md R113, R115 (the model's reading, log entry 3): a wire command is the run of its events. -/
def Obligations.WireCommandsAreTheirEvents : Prop :=
  (∀ (a : Addr) (d : Data) (c : Byte) (s : State), ∃ t1 t2 t3 t4 t5 : State,
    exec (.evRx 0xFF) s = .next t1 ∧
    exec (.evRx ((0 : BitVec 1) ++ a)) t1 = .next t2 ∧
    exec (.evRx (d.extractLsb' 8 8)) t2 = .next t3 ∧
    exec (.evRx (d.extractLsb' 0 8)) t3 = .next t4 ∧
    exec (.evRx c) t4 = .next t5 ∧
    exec (.writeFrame a d c) s = .next t5) ∧
  (∀ (a : Addr) (s : State), ∃ t1 t2 t3 t4 t5 : State,
    exec (.evRx 0xFF) s = .next t1 ∧
    exec (.evRx ((1 : BitVec 1) ++ a)) t1 = .next t2 ∧
    exec .evTxe t2 = .next t3 ∧
    exec .evTxe t3 = .next t4 ∧
    exec .evTxe t4 = .next t5 ∧
    exec (.readFrame a) s = .next t5)

/-- 30_encoding.md R113 and R114: a write frame received in S_SYNC with room in the queue is queued as
`{0, a, d, c}`, and nothing but the engine's and the queue's own registers changes. -/
def Obligations.WriteFrameIsQueuedAsReceived : Prop :=
  ∀ (a : Addr) (d : Data) (c : Byte) (s : State), s.pstate = .sync → s.qFull = false →
    ∃ t, exec (.writeFrame a d c) s = .next t ∧
      t = { s with
        facc := (0 : BitVec 1) ++ a ++ d ++ s.facc.extractLsb' 0 8, qbuf := t.qbuf,
        qWr := (s.qWr + 1) % Config.params.QCAP, qFull := decide ((s.qWr + 1) % Config.params.QCAP = s.qRd) } ∧
      queueSlot t s.qWr = (0 : BitVec 1) ++ a ++ d ++ c ∧
      ∀ k, k ≠ s.qWr → queueSlot t k = queueSlot s k

/-- 30_encoding.md R115 with 20_memory.md R89: a read exchange started in S_SYNC sends the looked-up value, high byte
first, and its code, and changes nothing but the latch, `txe_en` (left 0) and the bytes sent. -/
def Obligations.ReadFrameAnswersWithEntry : Prop :=
  ∀ (a : Addr) (s : State), s.pstate = .sync →
    let hi : Byte := (s.tableVal a).extractLsb' 8 8
    let lo : Byte := (s.tableVal a).extractLsb' 0 8
    let code : Byte := ~~~((Config.params.READ_CODE_DIR ++ a) ^^^ hi ^^^ lo)
    exec (.readFrame a) s =
      .next { s with rlat := hi ++ lo ++ code, txeEn := false, tx := s.tx ++ [hi, lo, code] }

/-- 41_protocol_engine.md, opening text, with 20_memory.md R94: the receive and transmit rules and events, the wire
commands among them, touch only the engine's registers, the producer side of the queue and port tx. -/
def Obligations.EngineLeavesSupervisorAlone : Prop :=
  ∀ (i : Instr) (s : State),
    (i = .sync ∨ (∃ b, i = .rxDiscardSync b) ∨ (∃ a, i = .readAddr a) ∨ (∃ a, i = .writeAddr a) ∨
      (∃ d, i = .dataHi d) ∨ (∃ d, i = .dataLo d) ∨ (∃ c, i = .checksum c) ∨ (∃ b, i = .rxDiscardTx b) ∨
      i = .txHi ∨ i = .txLo ∨ i = .txCk ∨ (∃ a d c, i = .writeFrame a d c) ∨ (∃ a, i = .readFrame a) ∨
      (∃ b, i = .evRx b) ∨ i = .evTxe) →
    ∃ t, exec i s = .next t ∧
      t = { s with
        pstate := t.pstate, facc := t.facc, rlat := t.rlat, txeEn := t.txeEn, qbuf := t.qbuf, qWr := t.qWr,
        qFull := t.qFull, tx := t.tx }

/-- 41_protocol_engine.md R172 and 70_reset_and_hazards.md R365: how the engine comes back to S_SYNC. -/
def Obligations.EngineResynchronises : Prop :=
  ∀ (p : Params) (s : State),
    (s.pstate = .dhi → ∀ b1 b2 b3, (receiveAll p [b1, b2, b3] s).pstate = .sync) ∧
    (s.pstate = .dlo → ∀ b1 b2, (receiveAll p [b1, b2] s).pstate = .sync) ∧
    (s.pstate = .ck → ∀ b1, (receiveAll p [b1] s).pstate = .sync) ∧
    (s.pstate = .addr → ∀ b,
      (receive p b s).pstate = if b.msb then PState.thi else PState.dhi) ∧
    (transmitting s.pstate = true → ∀ bytes, receiveAll p bytes s = s) ∧
    (transmitting s.pstate = true → s.txeEn = true →
      (transmit (transmit (transmit s))).pstate = .sync) ∧
    (transmitting s.pstate = false → (receiveAll p [0, 0, 0, 0] s).pstate = .sync) ∧
    (s.pstate = .dhi → (receiveAll p [0xFF, 0xFF, 0xFF, 0xFF, 0xFF] s).pstate = .thi)

/-! ## Integrity code -/

/-- 40_register_table.md R145: every frame with its own code validates, every single-bit flip of address, data or code
of a valid frame is detected, and an error is undetected exactly when it flips an even number of bytes in every bit
position. -/
def Obligations.IntegrityCodeDetectsErrors : Prop :=
  (∀ (a : Addr) (d : Data),
    frameOk ((0 : BitVec 1) ++ a ++ d ++ ck8 ((0 : BitVec 1) ++ a) (d.extractLsb' 8 8) (d.extractLsb' 0 8)) = true) ∧
  (∀ (w : FrameWord) (i : Nat), frameOk w = true → i < 31 → frameOk (w ^^^ ((1 : FrameWord) <<< i)) = false) ∧
  (∀ w e : FrameWord, frameOk w = true →
    (frameOk (w ^^^ e) = true ↔
      ∀ i < 8,
        (((i != 7 && e.getLsbD (24 + i)) ^^ e.getLsbD (16 + i)) ^^ (e.getLsbD (8 + i) ^^ e.getLsbD i)) = false))

/-! ## Register table -/

/-- 40_register_table.md R142: a publish writes value and code of one valid entry that is no mirror, and otherwise
changes nothing. -/
def Obligations.PublishWritesOneEntry : Prop :=
  ∀ (a : Addr) (v : Data) (s : State), Memory.wf s.table = true →
    ∃ t, exec (.evPublish a v) s = .next t ∧
      t = { s with table := t.table } ∧
      (∀ b, tableEntry Config.params t.table b =
        if b = a ∧ a.toNat < Config.params.N_REGS ∧ a ≠ Config.params.ADDR_STATUS ∧
            a ≠ Config.params.ADDR_FAULT ∧ a ≠ Config.params.ADDR_FAULT_MASK then
          { val := v,
            code := ~~~((Config.params.READ_CODE_DIR ++ a) ^^^ v.extractLsb' 8 8 ^^^ v.extractLsb' 0 8) }
        else tableEntry Config.params s.table b) ∧
      (Config.params.N_REGS ≤ a.toNat ∨ a = Config.params.ADDR_STATUS ∨ a = Config.params.ADDR_FAULT ∨
        a = Config.params.ADDR_FAULT_MASK → t = s)

/-- Every step keeps every code consistent with its value (10_state.md R38) and nothing stored at a mirror (R39), and
keeps the list canonical: its addresses rising and no entry blank. That last clause is the model's choice (log entry 7)
and no rule of the spec. -/
def Obligations.StepKeepsTableConsistent : Prop :=
  ∀ s t : State, s.TableOk → step s = .next t → t.TableOk

/-! ## Write queue and dispatch -/

/-- 42_write_queue.md R199: frames come out in the order they went in, and a frame more than QCAP is dropped without
harm to the others. -/
def Obligations.QueueIsFifo : Prop :=
  ∀ (p : Params) (s : State) (ws : List FrameWord),
    s.qRd < p.QCAP → s.qWr = s.qRd → s.qFull = false → ws.length ≤ p.QCAP →
      (popMany p ws.length (pushAll p ws s)).1 = ws ∧
      queueEmpty (popMany p ws.length (pushAll p ws s)).2 = true ∧
      queueCount p (pushAll p ws s) = ws.length ∧
      (ws.length = p.QCAP → ∀ w, queuePush p w (pushAll p ws s) = pushAll p ws s)

/-- 10_state.md R34 to R37 with 41_protocol_engine.md R163: every step keeps the engine and the queue well formed. That
the slots written are listed by rising number is the model's choice (log entry 6) and no rule of the spec. -/
def Obligations.StepKeepsEngineAndQueue : Prop :=
  ∀ s t : State, s.EngineOk → s.QueueOk → step s = .next t → t.EngineOk ∧ t.QueueOk

/-- 42_write_queue.md R191 and R198: an empty queue makes EV_DEQUEUE a no-op; otherwise the oldest frame leaves the
queue and the row it decodes to runs, with the event's clock. -/
def Obligations.DequeueRunsOldestFrame : Prop :=
  ∀ (now : Millis) (s : State),
    (s.qWr = s.qRd → s.qFull = false → exec (.evDequeue now) s = .next s) ∧
    (s.qWr ≠ s.qRd ∨ s.qFull = true →
      ∃ t, exec (.evDequeue now) s = .next t ∧
        exec (instrOfFrame now (decodeFrame Config.params (queueSlot s s.qRd)))
          { s with qRd := (s.qRd + 1) % Config.params.QCAP, qFull := false } = .next t)

/-- 30_encoding.md R119 with 42_write_queue.md R192, R195: the dispatch map, for any parameters. -/
def Obligations.DispatchMapFollowsAddress : Prop :=
  ∀ (p : Params) (now : Millis) (w : FrameWord),
    let a : Addr := w.extractLsb' 24 7
    let d : Data := w.extractLsb' 8 16
    let row := instrOfFrame now (decodeFrame p w)
    (frameOk w = false → row = .wrBadCode a d (w.extractLsb' 0 8)) ∧
    (frameOk w = true →
      (p.N_REGS ≤ a.toNat → row = .wrInvalidAddr a d) ∧
      (a = p.ADDR_ENABLE → row = .wrEnable d now) ∧
      (a = p.ADDR_MODE → row = .wrMode d) ∧
      (a = p.ADDR_SP_CC → row = .wrSpCc d) ∧
      (a = p.ADDR_SP_CV → row = .wrSpCv d) ∧
      (a = p.ADDR_SP_CR → row = .wrSpCr d) ∧
      (a = p.ADDR_SP_CP → row = .wrSpCp d) ∧
      (a = p.ADDR_FAULT → row = .wrFaultClear d) ∧
      (a = p.ADDR_FAULT_MASK → row = .wrFaultMask d) ∧
      (a = p.ADDR_WDG → row = .wrWdg d now) ∧
      (a = p.ADDR_STATUS → row = .wrStatus d) ∧
      (a.toNat < p.N_REGS →
        a ∉ [p.ADDR_ENABLE, p.ADDR_MODE, p.ADDR_SP_CC, p.ADDR_SP_CV, p.ADDR_SP_CR, p.ADDR_SP_CP, p.ADDR_FAULT,
          p.ADDR_FAULT_MASK, p.ADDR_WDG, p.ADDR_STATUS] →
        row = .wrExternal a d))

/-- 42_write_queue.md R193, R194, R196, R197: the rows that reach none of the block's registers, and the rejected
frame, which raises CRC only where the parameter says so. -/
def Obligations.DroppedAndExternalWrites : Prop :=
  ∀ (a : Addr) (d : Data) (c : Byte) (s : State),
    exec (.wrBadCode a d c) s =
      .next (if Config.params.CRC_FAULT_ON_MISMATCH then trigger Config.params 0x0002 s else s) ∧
    exec (.wrInvalidAddr a d) s = .next s ∧
    exec (.wrStatus d) s = .next s ∧
    exec (.wrExternal a d) s = .next { s with wrOut := s.wrOut ++ [(a, d)] }

/-! ## Fault register -/

/-- 43_fault_enable.md R220, R223, R224, R226, 60_exceptions.md R338: what raising causes leaves, in every case. -/
def Obligations.TriggerLatchesAndDisables : Prop :=
  ∀ (p : Params) (bits : FaultBits) (s : State),
    let f : FaultBits := s.fault ||| (bits &&& 0x3FFF)
    (f &&& s.faultMask ≠ 0 → s.enabled = true →
      trigger p bits s =
        { s with
          fault := f, faultActive := true, faultLed := f &&& s.faultMask &&& 0xDFFF != 0,
          pwrEn0 := false, pwrEn1 := false, dacCode := p.DAC_ZERO_CODE, dacTarget := p.DAC_ZERO_CODE,
          transient := false, slewRun := false, enabled := false, nir := false, integ := 0, afeCont := false }) ∧
    (f &&& s.faultMask ≠ 0 → s.enabled = false →
      trigger p bits s =
        { s with fault := f, faultActive := true, faultLed := f &&& s.faultMask &&& 0xDFFF != 0 }) ∧
    (f &&& s.faultMask = 0 →
      trigger p bits s = { s with fault := f, faultActive := false, faultLed := false })

/-- 43_fault_enable.md R221, R228: WR_FAULT_CLEAR removes the bits written as 1 and never enables the load. -/
def Obligations.FaultClearRemovesWrittenBits : Prop :=
  ∀ (d : Data) (s : State),
    let f : FaultBits := s.fault &&& ~~~(d &&& 0x3FFF)
    (f &&& s.faultMask ≠ 0 →
      exec (.wrFaultClear d) s =
        .next { enableFalse Config.params { s with fault := f } with
          faultActive := true, faultLed := f &&& s.faultMask &&& 0xDFFF != 0 }) ∧
    (f &&& s.faultMask = 0 →
      exec (.wrFaultClear d) s = .next { s with fault := f, faultActive := false, faultLed := false })

/-- 43_fault_enable.md R222, R229: WR_FAULT_MASK keeps the non-maskable bits and drops the reserved ones. -/
def Obligations.FaultMaskWriteEvaluates : Prop :=
  ∀ (d : Data) (s : State),
    let m : FaultBits := (d ||| Config.params.NON_MASKABLE) &&& 0x3FFF
    (s.fault &&& m ≠ 0 →
      exec (.wrFaultMask d) s =
        .next { enableFalse Config.params { s with faultMask := m } with
          faultActive := true, faultLed := s.fault &&& m &&& 0xDFFF != 0 }) ∧
    (s.fault &&& m = 0 →
      exec (.wrFaultMask d) s = .next { s with faultMask := m, faultActive := false, faultLed := false })

/-- 43_fault_enable.md R240: after every mask write the effective mask holds the non-maskable subset. -/
def Obligations.NonMaskableBitsSurviveMaskWrites : Prop :=
  ∀ (p : Params) (m : FaultBits) (s : State),
    (setFaultMask p m s).faultMask &&& p.NON_MASKABLE = p.NON_MASKABLE ∧
    (setFaultMask p m s).faultMask &&& ~~~0x3FFF = 0

/-- 10_state.md R40: a latched bit goes only by WR_FAULT_CLEAR, run directly or by the dequeue of its frame, and only
if the master wrote it as 1, or by EV_RESET. -/
def Obligations.FaultBitsStayLatched : Prop :=
  ∀ (i : Instr) (s t : State) (k : Nat), exec i s = .next t → s.fault.getLsbD k = true → t.fault.getLsbD k = false →
    i = .evReset ∨
    (∃ d : Data, d.getLsbD k = true ∧
      (i = .wrFaultClear d ∨
        ∃ now, i = .evDequeue now ∧ decodeFrame Config.params (queueSlot s s.qRd) = .faultClear d))

/-- 20_memory.md R94: only the supervisor side mutates FAULT and FAULT_MASK; no receive, transmit, sample, slew-tick,
publish or set-ready event does. -/
def Obligations.InterruptEventsLeaveFaultsAlone : Prop :=
  ∀ (i : Instr) (s t : State),
    ((∃ b, i = .evRx b) ∨ i = .evTxe ∨ (∃ v c, i = .evSample v c) ∨ i = .evSlewTick ∨ (∃ a v, i = .evPublish a v) ∨
      (∃ r, i = .evSetReady r)) →
    exec i s = .next t → t.fault = s.fault ∧ t.faultMask = s.faultMask

/-! ## Enable state machine, mode, setpoints, watchdog key -/

/-- 43_fault_enable.md R225 through R227: a nonzero enable write starts a disabled, ready load with no masked cause,
and changes nothing in any other case. -/
def Obligations.EnableWriteStartsLoadOrChangesNothing : Prop :=
  ∀ (d : Data) (now : Millis) (s : State), d ≠ 0 →
    (s.enabled = true ∨ s.ready = false ∨ s.fault &&& s.faultMask ≠ 0 → exec (.wrEnable d now) s = .next s) ∧
    (s.enabled = false → s.ready = true → s.fault &&& s.faultMask = 0 → s.mode = .cc →
      exec (.wrEnable d now) s =
        .next { s with
          dacCode := Config.params.DAC_MIN_CODE, dacTarget := Config.params.CC_CODE s.sp.cc,
          transient := decide (Config.params.CC_CODE s.sp.cc ≠ Config.params.DAC_MIN_CODE),
          slewRun := decide (Config.params.CC_CODE s.sp.cc ≠ Config.params.DAC_MIN_CODE),
          pwrEn0 := true, pwrEn1 := true, enabled := true, stats := { mAs := 0, mWs := 0, secs := 0 },
          wdgLast := now }) ∧
    (s.enabled = false → s.ready = true → s.fault &&& s.faultMask = 0 → s.mode ≠ .cc →
      exec (.wrEnable d now) s =
        .next { s with
          dacCode := Config.params.DAC_MIN_CODE, dacTarget := Config.params.DAC_MIN_CODE,
          transient := false, slewRun := false, pwrEn0 := true, pwrEn1 := true, integ := 0, afeCont := true,
          enabled := true, stats := { mAs := 0, mWs := 0, secs := 0 }, wdgLast := now })

/-- 43_fault_enable.md R226, R227: writing zero disables the load, and changes nothing of a disabled one. -/
def Obligations.ZeroEnableWriteStopsLoad : Prop :=
  ∀ (now : Millis) (s : State),
    (s.enabled = false → exec (.wrEnable 0 now) s = .next s) ∧
    (s.enabled = true →
      exec (.wrEnable 0 now) s =
        .next { s with
          pwrEn0 := false, pwrEn1 := false, dacCode := Config.params.DAC_ZERO_CODE,
          dacTarget := Config.params.DAC_ZERO_CODE, transient := false, slewRun := false, enabled := false,
          nir := false, integ := 0, afeCont := false })

/-- 43_fault_enable.md R230: a mode write disables first, then switches and zeroes the integrator. -/
def Obligations.ModeWriteSwitchesMode : Prop :=
  ∀ (d : Data) (s : State),
    (d.toNat > 3 ∨ d.toNat = (modeCode s.mode).toNat → exec (.wrMode d) s = .next s) ∧
    (∀ m : Mode, d.toNat = (modeCode m).toNat → m ≠ s.mode →
      (s.enabled = false → exec (.wrMode d) s = .next { s with mode := m, integ := 0 }) ∧
      (s.enabled = true →
        exec (.wrMode d) s =
          .next { s with
            mode := m, pwrEn0 := false, pwrEn1 := false, dacCode := Config.params.DAC_ZERO_CODE,
            dacTarget := Config.params.DAC_ZERO_CODE, transient := false, slewRun := false, enabled := false,
            nir := false, integ := 0, afeCont := false }))

/-- 43_fault_enable.md R232, R234, R235, R236: every setpoint is clamped at assignment, and the closed-loop setpoint
writes do nothing else. -/
def Obligations.SetpointWritesAreClamped : Prop :=
  ∀ (d : Data) (s : State),
    exec (.wrSpCv d) s =
      .next { s with sp := { s.sp with
        cv := min (max (Config.params.SP_FROM_DATA .cv d) Config.params.SP_MIN.cv) Config.params.SP_MAX.cv } } ∧
    exec (.wrSpCr d) s =
      .next { s with sp := { s.sp with
        cr := min (max (Config.params.SP_FROM_DATA .cr d) Config.params.SP_MIN.cr) Config.params.SP_MAX.cr } } ∧
    exec (.wrSpCp d) s =
      .next { s with sp := { s.sp with
        cp := min (max (Config.params.SP_FROM_DATA .cp d) Config.params.SP_MIN.cp) Config.params.SP_MAX.cp } } ∧
    ∃ t, exec (.wrSpCc d) s = .next t ∧ t.sp = { s.sp with
      cc := min (max (Config.params.SP_FROM_DATA .cc d) Config.params.SP_MIN.cc) Config.params.SP_MAX.cc }

/-- 43_fault_enable.md R233 with 45_slew_dac.md R290: the CC setpoint, which redirects the ramp of an enabled CC load. -/
def Obligations.CcSetpointRedirectsRamp : Prop :=
  ∀ (d : Data) (s : State),
    let mA := min (max (Config.params.SP_FROM_DATA .cc d) Config.params.SP_MIN.cc) Config.params.SP_MAX.cc
    (s.enabled = false ∨ s.mode ≠ .cc → exec (.wrSpCc d) s = .next { s with sp := { s.sp with cc := mA } }) ∧
    (s.enabled = true → s.mode = .cc →
      exec (.wrSpCc d) s =
        .next { s with
          sp := { s.sp with cc := mA }, dacTarget := Config.params.CC_CODE mA,
          transient := decide (Config.params.CC_CODE mA ≠ s.dacCode),
          slewRun := decide (Config.params.CC_CODE mA ≠ s.dacCode) })

/-- 43_fault_enable.md R237: only the key refreshes the watchdog. -/
def Obligations.WatchdogKeyRefreshes : Prop :=
  ∀ (d : Data) (now : Millis) (s : State),
    (d = Config.params.WDG_KEY → exec (.wrWdg d now) s = .next { s with wdgLast := now }) ∧
    (d ≠ Config.params.WDG_KEY → exec (.wrWdg d now) s = .next s)

/-- 43_fault_enable.md R231: EV_SET_READY stores its operand and nothing else. -/
def Obligations.SetReadyStoresFlag : Prop :=
  ∀ (r : Bool) (s : State), exec (.evSetReady r) s = .next { s with ready := r }

/-- 43_fault_enable.md R239, R241: the load turns on only by an enable write, ready and with no masked cause. -/
def Obligations.OnlyEnableWriteTurnsLoadOn : Prop :=
  ∀ (i : Instr) (s t : State), exec i s = .next t → s.enabled = false → t.enabled = true →
    s.ready = true ∧ s.fault &&& s.faultMask = 0 ∧
    ∃ (d : Data) (now : Millis), d ≠ 0 ∧
      (i = .wrEnable d now ∨
        (i = .evDequeue now ∧ queueEmpty s = false ∧ decodeFrame Config.params (queueSlot s s.qRd) = .enable d))

/-- 43_fault_enable.md R241, last sentence: no instruction leads from Fault to Enabled. -/
def Obligations.FaultNeverLeadsToEnabled : Prop :=
  ∀ (i : Instr) (s t : State), s.FaultOk → exec i s = .next t → s.enableState = .fault → t.enableState ≠ .enabled

/-! ## Period, debouncer, regulation -/

/-- 44_debouncer.md R270, R273, R275, R276 with the bits of 10_state.md R40: in every period each debounced observation
steps the counter of its own channel and latches the bit of its own channel when it fires. A fuse observation is gated
by the ramp as the watchdog, the protections and the three channels before it leave it. In a period that raises nothing
these counters, with REG of an enabled load (R277), are all that changes; that `exec` leaves the statistics counters too
is the model's choice (log entry 5). -/
def Obligations.PeriodStepsEachDebounceChannel : Prop :=
  ∀ (now : Millis) (v c : Measure) (obs : Obs) (s : State),
    let n (ch : Channel) : Nat := Config.params.DEB_N.get ch
    let fires (ch : Channel) (bad : Bool) : Bool := bad && decide (s.debCnt.get ch + 1 = n ch)
    let count (ch : Channel) (bad : Bool) : Nat :=
      if bad = false then s.debCnt.get ch - 1
      else if s.debCnt.get ch + 1 < n ch then s.debCnt.get ch + 1
      else if s.debCnt.get ch + 1 = n ch then (if Config.params.DEB_REARM = .holdBelow then n ch - 1 else n ch)
      else s.debCnt.get ch
    let bits (raised : Bool) (b : FaultBits) : FaultBits := if raised then b else 0
    let early : FaultBits :=
      bits obs.otp 0x0004 ||| bits obs.ocp 0x0040 ||| bits obs.opp 0x0080 ||| bits obs.ext 0x2000 |||
        bits (fires .sensor obs.sensorBad) 0x0008 ||| bits (fires .fan1 obs.fanBad1) 0x0010 |||
        bits (fires .fan2 obs.fanBad2) 0x0020
    let expired : Bool := s.enabled && decide ((now - s.wdgLast).toNat > Config.params.WDG_TIMEOUT_MS)
    let off : Bool := s.enabled && (expired || (early != 0 && (s.fault ||| early) &&& s.faultMask != 0))
    let fuse (bad : Bool) : Bool := bad && !(Config.params.FUSE_TRANSIENT_GATE && (s.transient && !off))
    let regBad : Bool :=
      decide (((s.sp.get s.mode : Int) - (measured Config.params s.mode v c : Int)).natAbs >
        Config.params.REG_ERR_LIMIT.get s.mode) && !s.transient
    (∃ t, exec (.evPeriod now v c obs) s = .next t ∧
      t.debCnt.sensor = count .sensor obs.sensorBad ∧
      t.debCnt.fan1 = count .fan1 obs.fanBad1 ∧
      t.debCnt.fan2 = count .fan2 obs.fanBad2 ∧
      t.debCnt.fuse1 = count .fuse1 (fuse obs.fuseBad1) ∧
      t.debCnt.fuse2 = count .fuse2 (fuse obs.fuseBad2) ∧
      t.debCnt.fuse3 = count .fuse3 (fuse obs.fuseBad3) ∧
      t.debCnt.fuse4 = count .fuse4 (fuse obs.fuseBad4) ∧
      t.fault.getLsbD 3 = (s.fault.getLsbD 3 || fires .sensor obs.sensorBad) ∧
      t.fault.getLsbD 4 = (s.fault.getLsbD 4 || fires .fan1 obs.fanBad1) ∧
      t.fault.getLsbD 5 = (s.fault.getLsbD 5 || fires .fan2 obs.fanBad2) ∧
      t.fault.getLsbD 9 = (s.fault.getLsbD 9 || fires .fuse1 (fuse obs.fuseBad1)) ∧
      t.fault.getLsbD 10 = (s.fault.getLsbD 10 || fires .fuse2 (fuse obs.fuseBad2)) ∧
      t.fault.getLsbD 11 = (s.fault.getLsbD 11 || fires .fuse3 (fuse obs.fuseBad3)) ∧
      t.fault.getLsbD 12 = (s.fault.getLsbD 12 || fires .fuse4 (fuse obs.fuseBad4))) ∧
    (expired = false → early = 0 →
      fires .fuse1 (fuse obs.fuseBad1) = false → fires .fuse2 (fuse obs.fuseBad2) = false →
      fires .fuse3 (fuse obs.fuseBad3) = false → fires .fuse4 (fuse obs.fuseBad4) = false →
      (s.enabled = true → fires .reg regBad = false) →
      exec (.evPeriod now v c obs) s =
        .next { s with debCnt :=
          { sensor := count .sensor obs.sensorBad, fan1 := count .fan1 obs.fanBad1, fan2 := count .fan2 obs.fanBad2,
            reg := if s.enabled then count .reg regBad else s.debCnt.reg,
            fuse1 := count .fuse1 (fuse obs.fuseBad1), fuse2 := count .fuse2 (fuse obs.fuseBad2),
            fuse3 := count .fuse3 (fuse obs.fuseBad3), fuse4 := count .fuse4 (fuse obs.fuseBad4) } })

/-- 44_debouncer.md R272, R275, R276: each immediate protection, and each sensor, fan or fuse channel that a bad
observation takes to its threshold, latches its bit in the period that sees it, and disables the load in that period
when its bit is masked. -/
def Obligations.ProtectionsTripWithinPeriod : Prop :=
  ∀ (now : Millis) (v c : Measure) (obs : Obs) (s : State), ∃ t, exec (.evPeriod now v c obs) s = .next t ∧
    let due (ch : Channel) : Prop := s.debCnt.get ch + 1 = Config.params.DEB_N.get ch
    let ungated : Prop := Config.params.FUSE_TRANSIENT_GATE = false ∨ s.transient = false
    ∀ k, (k = 2 ∧ obs.otp = true) ∨ (k = 6 ∧ obs.ocp = true) ∨ (k = 7 ∧ obs.opp = true) ∨
        (k = 13 ∧ obs.ext = true) ∨
        (k = 3 ∧ obs.sensorBad = true ∧ due .sensor) ∨
        (k = 4 ∧ obs.fanBad1 = true ∧ due .fan1) ∨ (k = 5 ∧ obs.fanBad2 = true ∧ due .fan2) ∨
        (k = 9 ∧ obs.fuseBad1 = true ∧ ungated ∧ due .fuse1) ∨
        (k = 10 ∧ obs.fuseBad2 = true ∧ ungated ∧ due .fuse2) ∨
        (k = 11 ∧ obs.fuseBad3 = true ∧ ungated ∧ due .fuse3) ∨
        (k = 12 ∧ obs.fuseBad4 = true ∧ ungated ∧ due .fuse4) →
      t.fault.getLsbD k = true ∧
      (s.faultMask.getLsbD k = true → t.enabled = false ∧ t.faultActive = true ∧ t.enableState = .fault)

/-- 43_fault_enable.md R238: a period event raises COMM exactly when the watchdog of an enabled load has expired, and
then the load is off whatever the mask. -/
def Obligations.WatchdogExpiryDisables : Prop :=
  ∀ (now : Millis) (v c : Measure) (obs : Obs) (s : State), ∃ t, exec (.evPeriod now v c obs) s = .next t ∧
    t.fault.getLsbD 0 =
      (s.fault.getLsbD 0 || (s.enabled && decide ((now - s.wdgLast).toNat > Config.params.WDG_TIMEOUT_MS))) ∧
    (s.enabled = false ∨ (now - s.wdgLast).toNat > Config.params.WDG_TIMEOUT_MS → t.enabled = false)

/-- 44_debouncer.md R270 to R277: a period event touches the fault register, the load and its DAC, the integrator, NIR
and the debounce counters only. That `exec` leaves the statistics counters too is the model's choice (log entry 5) and
no rule of the spec: R270 and 10_state.md R56 do not specify their accumulation, and a step gives them a free value. -/
def Obligations.PeriodTouchesProtectionOnly : Prop :=
  ∀ (now : Millis) (v c : Measure) (obs : Obs) (s : State), ∃ t, exec (.evPeriod now v c obs) s = .next t ∧
    t = { s with
      fault := t.fault, enabled := t.enabled, faultActive := t.faultActive, nir := t.nir, pwrEn0 := t.pwrEn0,
      pwrEn1 := t.pwrEn1, faultLed := t.faultLed, afeCont := t.afeCont, debCnt := t.debCnt, dacCode := t.dacCode,
      dacTarget := t.dacTarget, slewRun := t.slewRun, transient := t.transient, integ := t.integ }

/-- 44_debouncer.md R277 (`regulation_eval` runs only while enabled): a period leaves the REG counter of a disabled
load alone. -/
def Obligations.DisabledLoadKeepsRegCounter : Prop :=
  ∀ (now : Millis) (v c : Measure) (obs : Obs) (s : State), s.enabled = false →
    ∃ t, exec (.evPeriod now v c obs) s = .next t ∧ t.debCnt.reg = s.debCnt.reg ∧ t.enabled = false

/-- 44_debouncer.md R273: one observation of a debounced condition, in every case; the bit of each channel as
10_state.md R40 numbers it. -/
def Obligations.DebounceStepCounts : Prop :=
  ∀ (p : Params) (ch : Channel) (s : State),
    let bit : FaultBits :=
      match ch with
      | .sensor => 0x0008
      | .fan1 => 0x0010
      | .fan2 => 0x0020
      | .reg => 0x0100
      | .fuse1 => 0x0200
      | .fuse2 => 0x0400
      | .fuse3 => 0x0800
      | .fuse4 => 0x1000
    debStep p ch false s = { s with debCnt := s.debCnt.set ch (s.debCnt.get ch - 1) } ∧
    (s.debCnt.get ch + 1 < p.DEB_N.get ch →
      debStep p ch true s = { s with debCnt := s.debCnt.set ch (s.debCnt.get ch + 1) }) ∧
    (s.debCnt.get ch + 1 = p.DEB_N.get ch →
      debStep p ch true s =
        setCount ch (if p.DEB_REARM = .holdBelow then p.DEB_N.get ch - 1 else p.DEB_N.get ch)
          (trigger p bit { s with nir := s.nir || decide (ch = .reg) })) ∧
    (p.DEB_N.get ch ≤ s.debCnt.get ch → debStep p ch true s = s)

/-- 44_debouncer.md R279: from count 0 and a clear bit, a stream of bad observations fires on the N-th and not before;
under HOLD_BELOW every later one fires again, under SATURATE none does; the bit, as 10_state.md R40 numbers it, rises
once and stays. -/
def Obligations.DebounceFiresOnNthBadObservation : Prop :=
  ∀ (p : Params) (ch : Channel) (s : State),
    let bit : FaultBits :=
      match ch with
      | .sensor => 0x0008
      | .fan1 => 0x0010
      | .fan2 => 0x0020
      | .reg => 0x0100
      | .fuse1 => 0x0200
      | .fuse2 => 0x0400
      | .fuse3 => 0x0800
      | .fuse4 => 0x1000
    s.debCnt.get ch = 0 → s.fault &&& bit = 0 →
    ∀ n : Nat,
      debFires p ch true (badRun p ch n s) =
        (match p.DEB_REARM with
          | .holdBelow => decide (p.DEB_N.get ch ≤ n + 1)
          | .saturate => decide (n + 1 = p.DEB_N.get ch)) ∧
      (badRun p ch n s).fault = (if n < p.DEB_N.get ch then s.fault else s.fault ||| bit)

/-- 44_debouncer.md R276: with the gate on, a fuse observation during a ramp counts as good. -/
def Obligations.FuseGateTreatsRampAsGood : Prop :=
  ∀ (p : Params) (ch : Channel) (bad : Bool) (s : State),
    (p.FUSE_TRANSIENT_GATE = true → s.transient = true →
      fuseStep p ch bad s = { s with debCnt := s.debCnt.set ch (s.debCnt.get ch - 1) }) ∧
    (p.FUSE_TRANSIENT_GATE = false ∨ s.transient = false → fuseStep p ch bad s = debStep p ch bad s)

/-- 44_debouncer.md R270, R277: the regulation step of an enabled load. First `regulation_eval` by itself, with REG at
N-1 and no masked cause: NIR stays set only if REG is unmasked; if REG is masked the load is disabled. Then EV_PERIOD
with the watchdog in time, no other bad observation, no ramp and the error above the limit: below N-1 REG counts, at
N-1 it fires, at N it rests, while every other channel counts its good observation; that `exec` leaves the statistics
counters is the model's choice (log entry 5). -/
def Obligations.RegulationFaultSetsNir : Prop :=
  (∀ (p : Params) (v c : Measure) (s : State), s.enabled = true → s.fault &&& s.faultMask = 0 →
    s.debCnt.reg + 1 = p.DEB_N.reg → s.transient = false →
    ((s.sp.get s.mode : Int) - (measured p s.mode v c : Int)).natAbs > p.REG_ERR_LIMIT.get s.mode →
      (regulationEval p v c s).fault = s.fault ||| 0x0100 ∧
      (regulationEval p v c s).nir = !s.faultMask.getLsbD 8 ∧
      (regulationEval p v c s).enabled = !s.faultMask.getLsbD 8) ∧
  (∀ (now : Millis) (v c : Measure) (s : State),
    let obs : Obs :=
      { otp := false, ocp := false, opp := false, ext := false, sensorBad := false, fanBad1 := false, fanBad2 := false,
        fuseBad1 := false, fuseBad2 := false, fuseBad3 := false, fuseBad4 := false }
    let counts (reg : Nat) : PerChannel Nat :=
      { sensor := s.debCnt.sensor - 1, fan1 := s.debCnt.fan1 - 1, fan2 := s.debCnt.fan2 - 1, reg := reg,
        fuse1 := s.debCnt.fuse1 - 1, fuse2 := s.debCnt.fuse2 - 1, fuse3 := s.debCnt.fuse3 - 1,
        fuse4 := s.debCnt.fuse4 - 1 }
    let n := Config.params.DEB_N.reg
    let rearm := if Config.params.DEB_REARM = .holdBelow then n - 1 else n
    let f : FaultBits := s.fault ||| 0x0100
    s.enabled = true → s.transient = false → (now - s.wdgLast).toNat ≤ Config.params.WDG_TIMEOUT_MS →
    ((s.sp.get s.mode : Int) - (measured Config.params s.mode v c : Int)).natAbs >
      Config.params.REG_ERR_LIMIT.get s.mode →
      (s.debCnt.reg + 1 < n →
        exec (.evPeriod now v c obs) s = .next { s with debCnt := counts (s.debCnt.reg + 1) }) ∧
      (s.debCnt.reg + 1 = n → f &&& s.faultMask = 0 →
        exec (.evPeriod now v c obs) s =
          .next { s with
            debCnt := counts rearm, fault := f, nir := true, faultActive := false, faultLed := false }) ∧
      (s.debCnt.reg + 1 = n → f &&& s.faultMask ≠ 0 →
        exec (.evPeriod now v c obs) s =
          .next { s with
            debCnt := counts rearm, fault := f, nir := false, faultActive := true,
            faultLed := f &&& s.faultMask &&& 0xDFFF != 0, pwrEn0 := false, pwrEn1 := false,
            dacCode := Config.params.DAC_ZERO_CODE, dacTarget := Config.params.DAC_ZERO_CODE, transient := false,
            slewRun := false, enabled := false, integ := 0, afeCont := false }) ∧
      (n ≤ s.debCnt.reg → exec (.evPeriod now v c obs) s = .next { s with debCnt := counts s.debCnt.reg }))

/-- 44_debouncer.md R278: the measured quantity of each mode. -/
def Obligations.MeasuredQuantities : Prop :=
  ∀ (p : Params) (v c : Measure),
    measured p .cc v c = c.toNat ∧
    measured p .cv v c = v.toNat ∧
    (c.toNat = 0 → measured p .cr v c = p.R_INF) ∧
    (c.toNat ≠ 0 → measured p .cr v c = v.toNat * 1000 / c.toNat) ∧
    measured p .cp v c = v.toNat * c.toNat / p.P_SCALE

/-! ## Slew stepper -/

/-- 45_slew_dac.md R292, R294: one tick moves the code by at most SLEW_DELTA toward the target and ends the ramp
exactly when it lands on it. -/
def Obligations.SlewTickStepsTowardTarget : Prop :=
  ∀ s : State, s.slewRun = true →
    (((s.dacTarget : Int) - s.dacCode).natAbs ≤ Config.params.SLEW_DELTA →
      exec .evSlewTick s = .next { s with dacCode := s.dacTarget, transient := false, slewRun := false }) ∧
    (s.dacTarget > s.dacCode + Config.params.SLEW_DELTA →
      exec .evSlewTick s = .next { s with dacCode := s.dacCode + Config.params.SLEW_DELTA }) ∧
    (s.dacTarget + Config.params.SLEW_DELTA < s.dacCode →
      exec .evSlewTick s = .next { s with dacCode := s.dacCode - Config.params.SLEW_DELTA })

/-- 45_slew_dac.md R296: a ramp with no redirect takes exactly ceil(distance / SLEW_DELTA) ticks, each of at most
SLEW_DELTA and toward the target. -/
def Obligations.RampTakesCeilingOfDistanceTicks : Prop :=
  ∀ (p : Params) (s : State), s.slewRun = true → s.transient = true → s.dacCode ≠ s.dacTarget →
    (∀ n, n < (rampDistance s + p.SLEW_DELTA - 1) / p.SLEW_DELTA →
      (slewTicks p n s).transient = true ∧ (slewTicks p n s).slewRun = true ∧
      rampDistance (slewTicks p (n + 1) s) = rampDistance (slewTicks p n s) - p.SLEW_DELTA ∧
      (s.dacCode < s.dacTarget →
        (slewTicks p n s).dacCode ≤ (slewTicks p (n + 1) s).dacCode ∧
        (slewTicks p (n + 1) s).dacCode ≤ s.dacTarget) ∧
      (s.dacTarget < s.dacCode →
        (slewTicks p (n + 1) s).dacCode ≤ (slewTicks p n s).dacCode ∧
        s.dacTarget ≤ (slewTicks p (n + 1) s).dacCode)) ∧
    (slewTicks p ((rampDistance s + p.SLEW_DELTA - 1) / p.SLEW_DELTA) s =
      { s with dacCode := s.dacTarget, transient := false, slewRun := false })

/-! ## PI loop -/

/-- 46_pid.md R310: a sample while disabled or in CC changes nothing. -/
def Obligations.SampleNeedsEnabledClosedLoop : Prop :=
  ∀ (v c : Measure) (s : State), s.enabled = false ∨ s.mode = .cc → exec (.evSample v c) s = .next s

/-- 46_pid.md R310, R311, R312 with 45_slew_dac.md R291: one PI step of an enabled closed-loop load. -/
def Obligations.SampleRunsPiStep : Prop :=
  ∀ (v c : Measure) (s : State) (m : Loop), s.enabled = true → s.mode = loopMode m →
    let e : Int :=
      (match Config.params.PID_SIGN.get m with
        | .plus => 1
        | .minus => -1) * ((s.sp.get s.mode : Int) - (measured Config.params s.mode v c : Int))
    let integ : Int := min (max (s.integ + e.tdiv (Config.params.KI.get m)) (-100000)) 100000
    let u : Int := (Config.params.DAC_ZERO_CODE : Int) - (e.tdiv (Config.params.KP.get m) + integ)
    let code : Nat := (min (max u 0) (Config.params.DAC_ZERO_CODE : Int)).toNat
    exec (.evSample v c) s =
      .next { s with
        integ := integ, dacCode := code, dacTarget := code, transient := false, slewRun := false }

/-- 46_pid.md R313: every instruction but EV_SAMPLE leaves the integrator as it is or zeroes it. -/
def Obligations.OnlySampleMovesIntegrator : Prop :=
  ∀ (i : Instr) (s t : State), (∀ v c, i ≠ .evSample v c) → exec i s = .next t → t.integ = s.integ ∨ t.integ = 0

/-! ## Reset, invariants, step, decoding -/

/-- 70_reset_and_hazards.md R360, R361: EV_RESET gives every register its reset value and emits nothing. The slots of
`qbuf` are unspecified by R361, so no value of `t.qbuf` is claimed; the last three fields are the model's own. -/
def Obligations.ResetRestoresEveryRegister : Prop :=
  ∀ s : State, ∃ t, exec .evReset s = .next t ∧
    t = {
      pstate := .sync, facc := 0, rlat := 0, txeEn := false, qbuf := t.qbuf, qWr := 0, qRd := 0, qFull := false,
      table := t.table, fault := 0,
      faultMask := (Config.params.FAULT_MASK_RESET ||| Config.params.NON_MASKABLE) &&& 0x3FFF,
      enabled := false, ready := false, faultActive := false, nir := false, pwrEn0 := false, pwrEn1 := false,
      faultLed := false, afeCont := false, mode := .cc, sp := Config.params.SP_MIN, wdgLast := 0,
      stats := { mAs := 0, mWs := 0, secs := 0 },
      debCnt := { sensor := 0, fan1 := 0, fan2 := 0, reg := 0, fuse1 := 0, fuse2 := 0, fuse3 := 0, fuse4 := 0 },
      dacCode := Config.params.DAC_ZERO_CODE, dacTarget := Config.params.DAC_ZERO_CODE, slewRun := false,
      transient := false, integ := 0, tx := s.tx, wrOut := s.wrOut,
      inbox := t.inbox, freeCtr := t.freeCtr, qSeed := t.qSeed } ∧
    ∀ a : Addr, tableEntry Config.params t.table a =
      { val := 0, code := ~~~((Config.params.READ_CODE_DIR ++ a) ^^^ 0 ^^^ 0) }

/-- The model's choice (log entries 2 and 6): EV_RESET leaves the stimuli still to come, and no queue slot is written
since it. -/
def Obligations.ResetKeepsStimuli : Prop :=
  ∀ s : State, ∃ t, exec .evReset s = .next t ∧ t.inbox = s.inbox ∧ t.freeCtr = s.freeCtr ∧ t.qbuf = [] ∧
    ∀ k, queueSlot t k = Config.freeSlot s.freeCtr k

/-- 70_reset_and_hazards.md R361, last sentence: the reset state meets every invariant, and the table reads value 0
with its code at every address. `State.Ok` also holds the canonical form of the table and the rising order of the
listed queue slots, which are the model's choices (log entries 7 and 6) and no rules of the spec. -/
def Obligations.ResetStateIsWellFormed : Prop :=
  State.reset.Ok ∧ State.reset.status = 0 ∧ State.reset.enableState = .disabled ∧
  ∀ a : Addr, tableEntry Config.params State.reset.table a = { val := 0, code := entryCode Config.params a 0 }

/-- 10_state.md R42, R44, R49, R50, R52, R58, R61 and 43_fault_enable.md R239: every step keeps the fault logic, the
load lines and the stepper consistent, so every state it leads to is safe. -/
def Obligations.StepKeepsFaultAndLoadConsistent : Prop :=
  ∀ s t : State, s.FaultOk → s.LoadOk → step s = .next t → t.FaultOk ∧ t.LoadOk ∧ t.Safe

/-- 10_state.md R54, R57, R63: every step keeps setpoints, debounce counters and integrator in range. -/
def Obligations.StepKeepsRanges : Prop :=
  ∀ s t : State, s.RangesOk → step s = .next t → t.RangesOk

/-- 00_scope.md R6 and 30_encoding.md R120: a step takes the next stimulus, a port event or the bytes of a wire
command, and runs the instruction it decodes to; the statistics counters take a free value (log entry 5). -/
def Obligations.StepRunsDecodedInstruction : Prop :=
  ∀ (s : State) (rest : List Stimulus),
    (∀ e : PortEvent, s.inbox = .event e :: rest →
      step s = exec (instrOfEvent e)
        { s with inbox := rest, stats := Config.freeStats s.freeCtr, freeCtr := s.freeCtr + 1 }) ∧
    (∀ (b : Byte) (bytes : List Byte) (i : Instr), s.inbox = .wire b bytes :: rest →
      decode (.wire (b :: bytes)) = .ok i →
      step s = exec i
        { s with inbox := rest, stats := Config.freeStats s.freeCtr, freeCtr := s.freeCtr + 1 }) ∧
    (∀ (b : Byte) (bytes : List Byte) (x : DecodeError), s.inbox = .wire b bytes :: rest →
      decode (.wire (b :: bytes)) = .error x →
      step s = exec (.evRx b)
        { s with
          inbox := bytes.map (fun y => Stimulus.event (.rx y)) ++ rest, stats := Config.freeStats s.freeCtr,
          freeCtr := s.freeCtr + 1 }) ∧
    (s.inbox = [] → step s = .next s)

/-- 00_scope.md R11: no operation fails; every instruction and every step answers a next state. -/
def Obligations.EveryStepCompletes : Prop :=
  (∀ (i : Instr) (s : State), ∃ t, exec i s = .next t) ∧ ∀ s : State, ∃ t, step s = .next t

/-- 30_encoding.md R112 to R119: decoding the encoding of a well-formed instruction gives it back, for every
instruction and any parameters. -/
def Obligations.DecodeInvertsEncode : Prop :=
  ∀ (p : Params) (i : Instr), i.wellFormed p = true → decode (encode i p) p = .ok i

/-- 30_encoding.md R112 to R118: words written out bit by bit decode to the instructions they stand for. -/
def Obligations.WrittenWordsDecode : Prop :=
  decode (.rxByte .sync 0b11111111) = .ok .sync ∧
  decode (.rxByte .addr 0b10000101) = .ok (.readAddr 5) ∧
  decode (.rxByte .addr 0b00000101) = .ok (.writeAddr 5) ∧
  decode (.wire [0b11111111, 0b00000101, 0b00010010, 0b00110100, 0b11011100]) = .ok (.writeFrame 5 0x1234 0xDC) ∧
  decode (.wire [0b11111111, 0b10010000]) = .ok (.readFrame 0x10) ∧
  decode (.frameWord 7 0b00000101000100100011010011011101) = .ok (.wrBadCode 5 0x1234 0xDD) ∧
  decode (.wire [0b00000000, 0b10010000]) = .error .noSyncByte
end

