-- ==== Sys2Proof/Laws/Bits.lean ====
section
/-! SUPPORT. The fields of bytes, data words and frame words that the operand forms put together. -/

namespace Sys2Proof.Machine

theorem byteAddr_addrByte (dir : BitVec 1) (a : Addr) : byteAddr (addrByte dir a) = a := by
  apply BitVec.eq_of_getLsbD_eq
  intro i hi
  simp only [byteAddr, addrByte, BitVec.getLsbD_extractLsb', BitVec.getLsbD_append]
  simp [hi]

theorem isReadByte_addrByte (dir : BitVec 1) (a : Addr) : isReadByte (addrByte dir a) = dir.msb := by
  unfold isReadByte addrByte
  rw [BitVec.msb_append]
  simp

theorem addrByte_byteAddr (b : Byte) : addrByte (BitVec.ofBool (isReadByte b)) (byteAddr b) = b := by
  revert b; decide

theorem dataOfBytes_high_low (d : Data) : dataOfBytes (dataHigh d) (dataLow d) = d := by
  apply BitVec.eq_of_getLsbD_eq
  intro i hi
  simp only [dataOfBytes, dataHigh, dataLow, BitVec.getLsbD_extractLsb', BitVec.getLsbD_append]
  by_cases h : i < 8
  · simp [h]
  · have h8 : i - 8 < 8 := by omega
    have : 8 + (i - 8) = i := by omega
    simp [h, h8, this]

theorem dataHigh_dataOfBytes (dh dl : Byte) : dataHigh (dataOfBytes dh dl) = dh := by
  apply BitVec.eq_of_getLsbD_eq
  intro i hi
  simp only [dataOfBytes, dataHigh, BitVec.getLsbD_extractLsb', BitVec.getLsbD_append]
  simp [hi]

theorem dataLow_dataOfBytes (dh dl : Byte) : dataLow (dataOfBytes dh dl) = dl := by
  apply BitVec.eq_of_getLsbD_eq
  intro i hi
  simp only [dataOfBytes, dataLow, BitVec.getLsbD_extractLsb', BitVec.getLsbD_append]
  simp [hi]

theorem frameCode_frameOf (a : Addr) (d : Data) (c : Byte) : frameCode (frameOf a d c) = c := by
  apply BitVec.eq_of_getLsbD_eq
  intro i hi
  simp only [frameCode, frameOf, frameOfBytes, BitVec.getLsbD_extractLsb', BitVec.getLsbD_append]
  simp [hi]

theorem frameData_frameOf (a : Addr) (d : Data) (c : Byte) : frameData (frameOf a d c) = d := by
  apply BitVec.eq_of_getLsbD_eq
  intro i hi
  simp only [frameData, frameOf, frameOfBytes, dataHigh, dataLow, BitVec.getLsbD_extractLsb',
    BitVec.getLsbD_append]
  by_cases h : i < 8
  · simp [h]
    omega
  · have h1 : i - 8 < 8 := by omega
    have h2 : ¬ 8 + i < 8 := by omega
    have h3 : ¬ 8 + i - 8 < 8 := by omega
    have h4 : 8 + i - 8 - 8 = i - 8 := by omega
    have h5 : 8 + (i - 8) = i := by omega
    simp [hi, h1, h, h5]

theorem frameAddr_frameOf (a : Addr) (d : Data) (c : Byte) : frameAddr (frameOf a d c) = a := by
  apply BitVec.eq_of_getLsbD_eq
  intro i hi
  simp only [frameAddr, frameOf, frameOfBytes, addrByte, BitVec.getLsbD_extractLsb', BitVec.getLsbD_append]
  have h1 : ¬ 24 + i < 8 := by omega
  have h2 : ¬ 24 + i - 8 < 8 := by omega
  have h3 : ¬ 24 + i - 8 - 8 < 8 := by omega
  have h4 : 24 + i - 8 - 8 - 8 = i := by omega
  simp [hi, h1, h2, h3, h4]

theorem msb_frameOf (a : Addr) (d : Data) (c : Byte) : (frameOf a d c).msb = false := by
  rw [BitVec.msb_eq_getLsbD_last]
  simp only [frameOf, frameOfBytes, addrByte, BitVec.getLsbD_append]
  simp

/-- The three bytes `frame_ok` reads, over a word built from its fields. -/
theorem frameOk_frameOf (a : Addr) (d : Data) (c : Byte) :
    frameOk (frameOf a d c) = (writeCode a d == c) := by
  have e1 : (frameOf a d c).extractLsb' 24 8 &&& 0x7F = addrByte 0 a := by
    apply BitVec.eq_of_getLsbD_eq
    intro i hi
    have h1 : ¬ 24 + i < 8 := by omega
    have h2 : ¬ 24 + i - 8 < 8 := by omega
    have h3 : ¬ 24 + i - 8 - 8 < 8 := by omega
    have h4 : 24 + i - 8 - 8 - 8 = i := by omega
    simp only [frameOf, frameOfBytes, addrByte, BitVec.getLsbD_and, BitVec.getLsbD_extractLsb',
      BitVec.getLsbD_append, h1, h2, h3, h4]
    have : i = 0 ∨ i = 1 ∨ i = 2 ∨ i = 3 ∨ i = 4 ∨ i = 5 ∨ i = 6 ∨ i = 7 := by omega
    rcases this with h | h | h | h | h | h | h | h <;> subst h <;> simp
  have e2 : (frameOf a d c).extractLsb' 16 8 = dataHigh d := by
    apply BitVec.eq_of_getLsbD_eq
    intro i hi
    have h1 : ¬ 16 + i < 8 := by omega
    have h2 : ¬ 16 + i - 8 < 8 := by omega
    have h4 : 16 + i - 8 - 8 = i := by omega
    simp only [frameOf, frameOfBytes, BitVec.getLsbD_extractLsb', BitVec.getLsbD_append, h1, h2, h4, hi]
    simp
  have e3 : (frameOf a d c).extractLsb' 8 8 = dataLow d := by
    apply BitVec.eq_of_getLsbD_eq
    intro i hi
    have h1 : ¬ 8 + i < 8 := by omega
    have h4 : 8 + i - 8 = i := by omega
    simp only [frameOf, frameOfBytes, BitVec.getLsbD_extractLsb', BitVec.getLsbD_append, h1, h4, hi]
    simp
  have e4 : (frameOf a d c).extractLsb' 0 8 = c := frameCode_frameOf a d c
  simp only [frameOk, e1, e2, e3, e4, writeCode]

theorem frameOk_goodFrame (a : Addr) (d : Data) : frameOk (goodFrame a d) = true := by
  simp [goodFrame, frameOk_frameOf]

theorem frameAddr_goodFrame (a : Addr) (d : Data) : frameAddr (goodFrame a d) = a := frameAddr_frameOf ..

theorem frameData_goodFrame (a : Addr) (d : Data) : frameData (goodFrame a d) = d := frameData_frameOf ..

theorem msb_goodFrame (a : Addr) (d : Data) : (goodFrame a d).msb = false := msb_frameOf ..

/-- A word with bit 31 at 0 is the frame word of its own fields. -/
theorem frameOf_fields (w : FrameWord) (h : w.msb = false) :
    frameOf (frameAddr w) (frameData w) (frameCode w) = w := by
  apply BitVec.eq_of_getLsbD_eq
  intro i hi
  have h31 : w.getLsbD 31 = false := by
    rw [BitVec.msb_eq_getLsbD_last] at h
    simpa using h
  simp only [frameOf, frameOfBytes, addrByte, dataHigh, dataLow, frameAddr, frameData, frameCode,
    BitVec.getLsbD_append, BitVec.getLsbD_extractLsb']
  by_cases c1 : i < 8
  · simp [c1]
  · by_cases c2 : i - 8 < 8
    · have c3 : 8 + (i - 8) = i := by omega
      have c4 : i - 8 < 16 := by omega
      simp [c1, c2, c3, c4]
    · by_cases c3 : i - 8 - 8 < 8
      · have c4 : 8 + (8 + (i - 8 - 8)) = i := by omega
        have c5 : 8 + (i - 8 - 8) < 16 := by omega
        simp [c1, c2, c3, c4, c5]
      · by_cases c4 : i - 8 - 8 - 8 < 7
        · have c5 : 24 + (i - 8 - 8 - 8) = i := by omega
          simp [c1, c2, c3, c4, c5]
        · have c5 : i = 31 := by omega
          subst c5
          simpa using h31.symm

/-- `frame_ok` bit by bit: in every position the code bit is the complement of the parity of the other three bytes. -/
theorem frameOk_iff_bits (w : FrameWord) :
    frameOk w = true ↔
      ∀ i < 8, (!(((i != 7 && w.getLsbD (24 + i)) ^^ w.getLsbD (16 + i)) ^^ w.getLsbD (8 + i))) = w.getLsbD i := by
  have mask : ∀ i < 8, (0x7F : Byte).getLsbD i = (i != 7) := by decide
  unfold frameOk ck8
  rw [beq_iff_eq]
  constructor
  · intro h i hi
    have hb := congrArg (fun x => BitVec.getLsbD x i) h
    simp only [BitVec.getLsbD_not, BitVec.getLsbD_xor, BitVec.getLsbD_and, BitVec.getLsbD_extractLsb', hi,
      decide_true, Bool.true_and, mask i hi, Nat.zero_add] at hb
    rw [← hb, Bool.and_comm]
  · intro h
    apply BitVec.eq_of_getLsbD_eq
    intro i hi
    simp only [BitVec.getLsbD_not, BitVec.getLsbD_xor, BitVec.getLsbD_and, BitVec.getLsbD_extractLsb', hi,
      decide_true, Bool.true_and, mask i hi, Nat.zero_add]
    rw [← h i hi, Bool.and_comm]

/-- The frame word that the four receive rules assemble in `facc` (41_protocol_engine.md R163 to R166). -/
theorem assembled_word (x : BitVec 32) (ab hi lo c : Byte) :
    (((((ab ++ x.extractLsb' 0 24 : BitVec 32).extractLsb' 24 8 ++ hi ++
        (ab ++ x.extractLsb' 0 24 : BitVec 32).extractLsb' 0 16 : BitVec 32).extractLsb' 16 16 ++ lo ++
      ((ab ++ x.extractLsb' 0 24 : BitVec 32).extractLsb' 24 8 ++ hi ++
        (ab ++ x.extractLsb' 0 24 : BitVec 32).extractLsb' 0 16 : BitVec 32).extractLsb' 0 8 : BitVec 32).extractLsb' 8 24
        ++ c : BitVec 32)) = frameOfBytes ab hi lo c := by
  apply BitVec.eq_of_getLsbD_eq
  intro i hi'
  simp only [frameOfBytes, BitVec.getLsbD_append, BitVec.getLsbD_extractLsb']
  interval_cases i <;> simp

/-- What `facc` holds after the first three of them (41_protocol_engine.md R163 to R165). -/
theorem assembled_facc (x : BitVec 32) (a : Addr) (d : Data) :
    ((addrByte 0 a ++ x.extractLsb' 0 24 : BitVec 32).extractLsb' 24 8 ++ dataHigh d ++
        (addrByte 0 a ++ x.extractLsb' 0 24 : BitVec 32).extractLsb' 0 16 : BitVec 32).extractLsb' 16 16 ++ dataLow d ++
      ((addrByte 0 a ++ x.extractLsb' 0 24 : BitVec 32).extractLsb' 24 8 ++ dataHigh d ++
        (addrByte 0 a ++ x.extractLsb' 0 24 : BitVec 32).extractLsb' 0 16 : BitVec 32).extractLsb' 0 8 =
    (0 : BitVec 1) ++ a ++ d ++ x.extractLsb' 0 8 := by
  apply BitVec.eq_of_getLsbD_eq
  intro i hi'
  simp only [addrByte, dataHigh, dataLow, BitVec.getLsbD_append, BitVec.getLsbD_extractLsb']
  interval_cases i <;> simp

end Sys2Proof.Machine
end

