-- ==== Sys2Proof/Laws/State.lean ====
section
/-! SUPPORT. What each update of the state leaves in each field: one lemma per field per update, true by definition. -/

namespace Sys2Proof.Machine

variable (p : Params) (s : State)

/-! ## `dacForce` -/

@[simp] theorem dacForce_pstate (c : Nat) : (dacForce c s).pstate = s.pstate := rfl
@[simp] theorem dacForce_facc (c : Nat) : (dacForce c s).facc = s.facc := rfl
@[simp] theorem dacForce_rlat (c : Nat) : (dacForce c s).rlat = s.rlat := rfl
@[simp] theorem dacForce_txeEn (c : Nat) : (dacForce c s).txeEn = s.txeEn := rfl
@[simp] theorem dacForce_qbuf (c : Nat) : (dacForce c s).qbuf = s.qbuf := rfl
@[simp] theorem dacForce_qWr (c : Nat) : (dacForce c s).qWr = s.qWr := rfl
@[simp] theorem dacForce_qRd (c : Nat) : (dacForce c s).qRd = s.qRd := rfl
@[simp] theorem dacForce_qFull (c : Nat) : (dacForce c s).qFull = s.qFull := rfl
@[simp] theorem dacForce_table (c : Nat) : (dacForce c s).table = s.table := rfl
@[simp] theorem dacForce_fault (c : Nat) : (dacForce c s).fault = s.fault := rfl
@[simp] theorem dacForce_faultMask (c : Nat) : (dacForce c s).faultMask = s.faultMask := rfl
@[simp] theorem dacForce_enabled (c : Nat) : (dacForce c s).enabled = s.enabled := rfl
@[simp] theorem dacForce_ready (c : Nat) : (dacForce c s).ready = s.ready := rfl
@[simp] theorem dacForce_faultActive (c : Nat) : (dacForce c s).faultActive = s.faultActive := rfl
@[simp] theorem dacForce_nir (c : Nat) : (dacForce c s).nir = s.nir := rfl
@[simp] theorem dacForce_pwrEn0 (c : Nat) : (dacForce c s).pwrEn0 = s.pwrEn0 := rfl
@[simp] theorem dacForce_pwrEn1 (c : Nat) : (dacForce c s).pwrEn1 = s.pwrEn1 := rfl
@[simp] theorem dacForce_faultLed (c : Nat) : (dacForce c s).faultLed = s.faultLed := rfl
@[simp] theorem dacForce_afeCont (c : Nat) : (dacForce c s).afeCont = s.afeCont := rfl
@[simp] theorem dacForce_mode (c : Nat) : (dacForce c s).mode = s.mode := rfl
@[simp] theorem dacForce_sp (c : Nat) : (dacForce c s).sp = s.sp := rfl
@[simp] theorem dacForce_wdgLast (c : Nat) : (dacForce c s).wdgLast = s.wdgLast := rfl
@[simp] theorem dacForce_stats (c : Nat) : (dacForce c s).stats = s.stats := rfl
@[simp] theorem dacForce_debCnt (c : Nat) : (dacForce c s).debCnt = s.debCnt := rfl
@[simp] theorem dacForce_dacCode (c : Nat) : (dacForce c s).dacCode = c := rfl
@[simp] theorem dacForce_dacTarget (c : Nat) : (dacForce c s).dacTarget = c := rfl
@[simp] theorem dacForce_slewRun (c : Nat) : (dacForce c s).slewRun = false := rfl
@[simp] theorem dacForce_transient (c : Nat) : (dacForce c s).transient = false := rfl
@[simp] theorem dacForce_integ (c : Nat) : (dacForce c s).integ = s.integ := rfl
@[simp] theorem dacForce_inbox (c : Nat) : (dacForce c s).inbox = s.inbox := rfl
@[simp] theorem dacForce_tx (c : Nat) : (dacForce c s).tx = s.tx := rfl
@[simp] theorem dacForce_wrOut (c : Nat) : (dacForce c s).wrOut = s.wrOut := rfl
@[simp] theorem dacForce_freeCtr (c : Nat) : (dacForce c s).freeCtr = s.freeCtr := rfl
@[simp] theorem dacForce_qSeed (c : Nat) : (dacForce c s).qSeed = s.qSeed := rfl

/-! ## `emitTx` -/

@[simp] theorem emitTx_pstate (b : Byte) : (emitTx b s).pstate = s.pstate := rfl
@[simp] theorem emitTx_facc (b : Byte) : (emitTx b s).facc = s.facc := rfl
@[simp] theorem emitTx_rlat (b : Byte) : (emitTx b s).rlat = s.rlat := rfl
@[simp] theorem emitTx_txeEn (b : Byte) : (emitTx b s).txeEn = s.txeEn := rfl
@[simp] theorem emitTx_qbuf (b : Byte) : (emitTx b s).qbuf = s.qbuf := rfl
@[simp] theorem emitTx_qWr (b : Byte) : (emitTx b s).qWr = s.qWr := rfl
@[simp] theorem emitTx_qRd (b : Byte) : (emitTx b s).qRd = s.qRd := rfl
@[simp] theorem emitTx_qFull (b : Byte) : (emitTx b s).qFull = s.qFull := rfl
@[simp] theorem emitTx_table (b : Byte) : (emitTx b s).table = s.table := rfl
@[simp] theorem emitTx_fault (b : Byte) : (emitTx b s).fault = s.fault := rfl
@[simp] theorem emitTx_faultMask (b : Byte) : (emitTx b s).faultMask = s.faultMask := rfl
@[simp] theorem emitTx_enabled (b : Byte) : (emitTx b s).enabled = s.enabled := rfl
@[simp] theorem emitTx_ready (b : Byte) : (emitTx b s).ready = s.ready := rfl
@[simp] theorem emitTx_faultActive (b : Byte) : (emitTx b s).faultActive = s.faultActive := rfl
@[simp] theorem emitTx_nir (b : Byte) : (emitTx b s).nir = s.nir := rfl
@[simp] theorem emitTx_pwrEn0 (b : Byte) : (emitTx b s).pwrEn0 = s.pwrEn0 := rfl
@[simp] theorem emitTx_pwrEn1 (b : Byte) : (emitTx b s).pwrEn1 = s.pwrEn1 := rfl
@[simp] theorem emitTx_faultLed (b : Byte) : (emitTx b s).faultLed = s.faultLed := rfl
@[simp] theorem emitTx_afeCont (b : Byte) : (emitTx b s).afeCont = s.afeCont := rfl
@[simp] theorem emitTx_mode (b : Byte) : (emitTx b s).mode = s.mode := rfl
@[simp] theorem emitTx_sp (b : Byte) : (emitTx b s).sp = s.sp := rfl
@[simp] theorem emitTx_wdgLast (b : Byte) : (emitTx b s).wdgLast = s.wdgLast := rfl
@[simp] theorem emitTx_stats (b : Byte) : (emitTx b s).stats = s.stats := rfl
@[simp] theorem emitTx_debCnt (b : Byte) : (emitTx b s).debCnt = s.debCnt := rfl
@[simp] theorem emitTx_dacCode (b : Byte) : (emitTx b s).dacCode = s.dacCode := rfl
@[simp] theorem emitTx_dacTarget (b : Byte) : (emitTx b s).dacTarget = s.dacTarget := rfl
@[simp] theorem emitTx_slewRun (b : Byte) : (emitTx b s).slewRun = s.slewRun := rfl
@[simp] theorem emitTx_transient (b : Byte) : (emitTx b s).transient = s.transient := rfl
@[simp] theorem emitTx_integ (b : Byte) : (emitTx b s).integ = s.integ := rfl
@[simp] theorem emitTx_inbox (b : Byte) : (emitTx b s).inbox = s.inbox := rfl
@[simp] theorem emitTx_tx (b : Byte) : (emitTx b s).tx = s.tx ++ [b] := rfl
@[simp] theorem emitTx_wrOut (b : Byte) : (emitTx b s).wrOut = s.wrOut := rfl
@[simp] theorem emitTx_freeCtr (b : Byte) : (emitTx b s).freeCtr = s.freeCtr := rfl
@[simp] theorem emitTx_qSeed (b : Byte) : (emitTx b s).qSeed = s.qSeed := rfl

/-! ## `setCount` -/

@[simp] theorem setCount_pstate (ch : Channel) (n : Nat) : (setCount ch n s).pstate = s.pstate := rfl
@[simp] theorem setCount_facc (ch : Channel) (n : Nat) : (setCount ch n s).facc = s.facc := rfl
@[simp] theorem setCount_rlat (ch : Channel) (n : Nat) : (setCount ch n s).rlat = s.rlat := rfl
@[simp] theorem setCount_txeEn (ch : Channel) (n : Nat) : (setCount ch n s).txeEn = s.txeEn := rfl
@[simp] theorem setCount_qbuf (ch : Channel) (n : Nat) : (setCount ch n s).qbuf = s.qbuf := rfl
@[simp] theorem setCount_qWr (ch : Channel) (n : Nat) : (setCount ch n s).qWr = s.qWr := rfl
@[simp] theorem setCount_qRd (ch : Channel) (n : Nat) : (setCount ch n s).qRd = s.qRd := rfl
@[simp] theorem setCount_qFull (ch : Channel) (n : Nat) : (setCount ch n s).qFull = s.qFull := rfl
@[simp] theorem setCount_table (ch : Channel) (n : Nat) : (setCount ch n s).table = s.table := rfl
@[simp] theorem setCount_fault (ch : Channel) (n : Nat) : (setCount ch n s).fault = s.fault := rfl
@[simp] theorem setCount_faultMask (ch : Channel) (n : Nat) : (setCount ch n s).faultMask = s.faultMask := rfl
@[simp] theorem setCount_enabled (ch : Channel) (n : Nat) : (setCount ch n s).enabled = s.enabled := rfl
@[simp] theorem setCount_ready (ch : Channel) (n : Nat) : (setCount ch n s).ready = s.ready := rfl
@[simp] theorem setCount_faultActive (ch : Channel) (n : Nat) : (setCount ch n s).faultActive = s.faultActive := rfl
@[simp] theorem setCount_nir (ch : Channel) (n : Nat) : (setCount ch n s).nir = s.nir := rfl
@[simp] theorem setCount_pwrEn0 (ch : Channel) (n : Nat) : (setCount ch n s).pwrEn0 = s.pwrEn0 := rfl
@[simp] theorem setCount_pwrEn1 (ch : Channel) (n : Nat) : (setCount ch n s).pwrEn1 = s.pwrEn1 := rfl
@[simp] theorem setCount_faultLed (ch : Channel) (n : Nat) : (setCount ch n s).faultLed = s.faultLed := rfl
@[simp] theorem setCount_afeCont (ch : Channel) (n : Nat) : (setCount ch n s).afeCont = s.afeCont := rfl
@[simp] theorem setCount_mode (ch : Channel) (n : Nat) : (setCount ch n s).mode = s.mode := rfl
@[simp] theorem setCount_sp (ch : Channel) (n : Nat) : (setCount ch n s).sp = s.sp := rfl
@[simp] theorem setCount_wdgLast (ch : Channel) (n : Nat) : (setCount ch n s).wdgLast = s.wdgLast := rfl
@[simp] theorem setCount_stats (ch : Channel) (n : Nat) : (setCount ch n s).stats = s.stats := rfl
@[simp] theorem setCount_debCnt (ch : Channel) (n : Nat) : (setCount ch n s).debCnt = s.debCnt.set ch n := rfl
@[simp] theorem setCount_dacCode (ch : Channel) (n : Nat) : (setCount ch n s).dacCode = s.dacCode := rfl
@[simp] theorem setCount_dacTarget (ch : Channel) (n : Nat) : (setCount ch n s).dacTarget = s.dacTarget := rfl
@[simp] theorem setCount_slewRun (ch : Channel) (n : Nat) : (setCount ch n s).slewRun = s.slewRun := rfl
@[simp] theorem setCount_transient (ch : Channel) (n : Nat) : (setCount ch n s).transient = s.transient := rfl
@[simp] theorem setCount_integ (ch : Channel) (n : Nat) : (setCount ch n s).integ = s.integ := rfl
@[simp] theorem setCount_inbox (ch : Channel) (n : Nat) : (setCount ch n s).inbox = s.inbox := rfl
@[simp] theorem setCount_tx (ch : Channel) (n : Nat) : (setCount ch n s).tx = s.tx := rfl
@[simp] theorem setCount_wrOut (ch : Channel) (n : Nat) : (setCount ch n s).wrOut = s.wrOut := rfl
@[simp] theorem setCount_freeCtr (ch : Channel) (n : Nat) : (setCount ch n s).freeCtr = s.freeCtr := rfl
@[simp] theorem setCount_qSeed (ch : Channel) (n : Nat) : (setCount ch n s).qSeed = s.qSeed := rfl

/-! ## `setReady` -/

@[simp] theorem setReady_pstate (r : Bool) : (setReady r s).pstate = s.pstate := rfl
@[simp] theorem setReady_facc (r : Bool) : (setReady r s).facc = s.facc := rfl
@[simp] theorem setReady_rlat (r : Bool) : (setReady r s).rlat = s.rlat := rfl
@[simp] theorem setReady_txeEn (r : Bool) : (setReady r s).txeEn = s.txeEn := rfl
@[simp] theorem setReady_qbuf (r : Bool) : (setReady r s).qbuf = s.qbuf := rfl
@[simp] theorem setReady_qWr (r : Bool) : (setReady r s).qWr = s.qWr := rfl
@[simp] theorem setReady_qRd (r : Bool) : (setReady r s).qRd = s.qRd := rfl
@[simp] theorem setReady_qFull (r : Bool) : (setReady r s).qFull = s.qFull := rfl
@[simp] theorem setReady_table (r : Bool) : (setReady r s).table = s.table := rfl
@[simp] theorem setReady_fault (r : Bool) : (setReady r s).fault = s.fault := rfl
@[simp] theorem setReady_faultMask (r : Bool) : (setReady r s).faultMask = s.faultMask := rfl
@[simp] theorem setReady_enabled (r : Bool) : (setReady r s).enabled = s.enabled := rfl
@[simp] theorem setReady_ready (r : Bool) : (setReady r s).ready = r := rfl
@[simp] theorem setReady_faultActive (r : Bool) : (setReady r s).faultActive = s.faultActive := rfl
@[simp] theorem setReady_nir (r : Bool) : (setReady r s).nir = s.nir := rfl
@[simp] theorem setReady_pwrEn0 (r : Bool) : (setReady r s).pwrEn0 = s.pwrEn0 := rfl
@[simp] theorem setReady_pwrEn1 (r : Bool) : (setReady r s).pwrEn1 = s.pwrEn1 := rfl
@[simp] theorem setReady_faultLed (r : Bool) : (setReady r s).faultLed = s.faultLed := rfl
@[simp] theorem setReady_afeCont (r : Bool) : (setReady r s).afeCont = s.afeCont := rfl
@[simp] theorem setReady_mode (r : Bool) : (setReady r s).mode = s.mode := rfl
@[simp] theorem setReady_sp (r : Bool) : (setReady r s).sp = s.sp := rfl
@[simp] theorem setReady_wdgLast (r : Bool) : (setReady r s).wdgLast = s.wdgLast := rfl
@[simp] theorem setReady_stats (r : Bool) : (setReady r s).stats = s.stats := rfl
@[simp] theorem setReady_debCnt (r : Bool) : (setReady r s).debCnt = s.debCnt := rfl
@[simp] theorem setReady_dacCode (r : Bool) : (setReady r s).dacCode = s.dacCode := rfl
@[simp] theorem setReady_dacTarget (r : Bool) : (setReady r s).dacTarget = s.dacTarget := rfl
@[simp] theorem setReady_slewRun (r : Bool) : (setReady r s).slewRun = s.slewRun := rfl
@[simp] theorem setReady_transient (r : Bool) : (setReady r s).transient = s.transient := rfl
@[simp] theorem setReady_integ (r : Bool) : (setReady r s).integ = s.integ := rfl
@[simp] theorem setReady_inbox (r : Bool) : (setReady r s).inbox = s.inbox := rfl
@[simp] theorem setReady_tx (r : Bool) : (setReady r s).tx = s.tx := rfl
@[simp] theorem setReady_wrOut (r : Bool) : (setReady r s).wrOut = s.wrOut := rfl
@[simp] theorem setReady_freeCtr (r : Bool) : (setReady r s).freeCtr = s.freeCtr := rfl
@[simp] theorem setReady_qSeed (r : Bool) : (setReady r s).qSeed = s.qSeed := rfl

/-! ## `wrExternal` -/

@[simp] theorem wrExternal_pstate (a : Addr) (d : Data) : (wrExternal a d s).pstate = s.pstate := rfl
@[simp] theorem wrExternal_facc (a : Addr) (d : Data) : (wrExternal a d s).facc = s.facc := rfl
@[simp] theorem wrExternal_rlat (a : Addr) (d : Data) : (wrExternal a d s).rlat = s.rlat := rfl
@[simp] theorem wrExternal_txeEn (a : Addr) (d : Data) : (wrExternal a d s).txeEn = s.txeEn := rfl
@[simp] theorem wrExternal_qbuf (a : Addr) (d : Data) : (wrExternal a d s).qbuf = s.qbuf := rfl
@[simp] theorem wrExternal_qWr (a : Addr) (d : Data) : (wrExternal a d s).qWr = s.qWr := rfl
@[simp] theorem wrExternal_qRd (a : Addr) (d : Data) : (wrExternal a d s).qRd = s.qRd := rfl
@[simp] theorem wrExternal_qFull (a : Addr) (d : Data) : (wrExternal a d s).qFull = s.qFull := rfl
@[simp] theorem wrExternal_table (a : Addr) (d : Data) : (wrExternal a d s).table = s.table := rfl
@[simp] theorem wrExternal_fault (a : Addr) (d : Data) : (wrExternal a d s).fault = s.fault := rfl
@[simp] theorem wrExternal_faultMask (a : Addr) (d : Data) : (wrExternal a d s).faultMask = s.faultMask := rfl
@[simp] theorem wrExternal_enabled (a : Addr) (d : Data) : (wrExternal a d s).enabled = s.enabled := rfl
@[simp] theorem wrExternal_ready (a : Addr) (d : Data) : (wrExternal a d s).ready = s.ready := rfl
@[simp] theorem wrExternal_faultActive (a : Addr) (d : Data) : (wrExternal a d s).faultActive = s.faultActive := rfl
@[simp] theorem wrExternal_nir (a : Addr) (d : Data) : (wrExternal a d s).nir = s.nir := rfl
@[simp] theorem wrExternal_pwrEn0 (a : Addr) (d : Data) : (wrExternal a d s).pwrEn0 = s.pwrEn0 := rfl
@[simp] theorem wrExternal_pwrEn1 (a : Addr) (d : Data) : (wrExternal a d s).pwrEn1 = s.pwrEn1 := rfl
@[simp] theorem wrExternal_faultLed (a : Addr) (d : Data) : (wrExternal a d s).faultLed = s.faultLed := rfl
@[simp] theorem wrExternal_afeCont (a : Addr) (d : Data) : (wrExternal a d s).afeCont = s.afeCont := rfl
@[simp] theorem wrExternal_mode (a : Addr) (d : Data) : (wrExternal a d s).mode = s.mode := rfl
@[simp] theorem wrExternal_sp (a : Addr) (d : Data) : (wrExternal a d s).sp = s.sp := rfl
@[simp] theorem wrExternal_wdgLast (a : Addr) (d : Data) : (wrExternal a d s).wdgLast = s.wdgLast := rfl
@[simp] theorem wrExternal_stats (a : Addr) (d : Data) : (wrExternal a d s).stats = s.stats := rfl
@[simp] theorem wrExternal_debCnt (a : Addr) (d : Data) : (wrExternal a d s).debCnt = s.debCnt := rfl
@[simp] theorem wrExternal_dacCode (a : Addr) (d : Data) : (wrExternal a d s).dacCode = s.dacCode := rfl
@[simp] theorem wrExternal_dacTarget (a : Addr) (d : Data) : (wrExternal a d s).dacTarget = s.dacTarget := rfl
@[simp] theorem wrExternal_slewRun (a : Addr) (d : Data) : (wrExternal a d s).slewRun = s.slewRun := rfl
@[simp] theorem wrExternal_transient (a : Addr) (d : Data) : (wrExternal a d s).transient = s.transient := rfl
@[simp] theorem wrExternal_integ (a : Addr) (d : Data) : (wrExternal a d s).integ = s.integ := rfl
@[simp] theorem wrExternal_inbox (a : Addr) (d : Data) : (wrExternal a d s).inbox = s.inbox := rfl
@[simp] theorem wrExternal_tx (a : Addr) (d : Data) : (wrExternal a d s).tx = s.tx := rfl
@[simp] theorem wrExternal_wrOut (a : Addr) (d : Data) : (wrExternal a d s).wrOut = s.wrOut ++ [(a, d)] := rfl
@[simp] theorem wrExternal_freeCtr (a : Addr) (d : Data) : (wrExternal a d s).freeCtr = s.freeCtr := rfl
@[simp] theorem wrExternal_qSeed (a : Addr) (d : Data) : (wrExternal a d s).qSeed = s.qSeed := rfl

/-! ## `presentEvent` -/

@[simp] theorem presentEvent_pstate (e : PortEvent) : (presentEvent e s).pstate = s.pstate := rfl
@[simp] theorem presentEvent_facc (e : PortEvent) : (presentEvent e s).facc = s.facc := rfl
@[simp] theorem presentEvent_rlat (e : PortEvent) : (presentEvent e s).rlat = s.rlat := rfl
@[simp] theorem presentEvent_txeEn (e : PortEvent) : (presentEvent e s).txeEn = s.txeEn := rfl
@[simp] theorem presentEvent_qbuf (e : PortEvent) : (presentEvent e s).qbuf = s.qbuf := rfl
@[simp] theorem presentEvent_qWr (e : PortEvent) : (presentEvent e s).qWr = s.qWr := rfl
@[simp] theorem presentEvent_qRd (e : PortEvent) : (presentEvent e s).qRd = s.qRd := rfl
@[simp] theorem presentEvent_qFull (e : PortEvent) : (presentEvent e s).qFull = s.qFull := rfl
@[simp] theorem presentEvent_table (e : PortEvent) : (presentEvent e s).table = s.table := rfl
@[simp] theorem presentEvent_fault (e : PortEvent) : (presentEvent e s).fault = s.fault := rfl
@[simp] theorem presentEvent_faultMask (e : PortEvent) : (presentEvent e s).faultMask = s.faultMask := rfl
@[simp] theorem presentEvent_enabled (e : PortEvent) : (presentEvent e s).enabled = s.enabled := rfl
@[simp] theorem presentEvent_ready (e : PortEvent) : (presentEvent e s).ready = s.ready := rfl
@[simp] theorem presentEvent_faultActive (e : PortEvent) : (presentEvent e s).faultActive = s.faultActive := rfl
@[simp] theorem presentEvent_nir (e : PortEvent) : (presentEvent e s).nir = s.nir := rfl
@[simp] theorem presentEvent_pwrEn0 (e : PortEvent) : (presentEvent e s).pwrEn0 = s.pwrEn0 := rfl
@[simp] theorem presentEvent_pwrEn1 (e : PortEvent) : (presentEvent e s).pwrEn1 = s.pwrEn1 := rfl
@[simp] theorem presentEvent_faultLed (e : PortEvent) : (presentEvent e s).faultLed = s.faultLed := rfl
@[simp] theorem presentEvent_afeCont (e : PortEvent) : (presentEvent e s).afeCont = s.afeCont := rfl
@[simp] theorem presentEvent_mode (e : PortEvent) : (presentEvent e s).mode = s.mode := rfl
@[simp] theorem presentEvent_sp (e : PortEvent) : (presentEvent e s).sp = s.sp := rfl
@[simp] theorem presentEvent_wdgLast (e : PortEvent) : (presentEvent e s).wdgLast = s.wdgLast := rfl
@[simp] theorem presentEvent_stats (e : PortEvent) : (presentEvent e s).stats = s.stats := rfl
@[simp] theorem presentEvent_debCnt (e : PortEvent) : (presentEvent e s).debCnt = s.debCnt := rfl
@[simp] theorem presentEvent_dacCode (e : PortEvent) : (presentEvent e s).dacCode = s.dacCode := rfl
@[simp] theorem presentEvent_dacTarget (e : PortEvent) : (presentEvent e s).dacTarget = s.dacTarget := rfl
@[simp] theorem presentEvent_slewRun (e : PortEvent) : (presentEvent e s).slewRun = s.slewRun := rfl
@[simp] theorem presentEvent_transient (e : PortEvent) : (presentEvent e s).transient = s.transient := rfl
@[simp] theorem presentEvent_integ (e : PortEvent) : (presentEvent e s).integ = s.integ := rfl
@[simp] theorem presentEvent_inbox (e : PortEvent) : (presentEvent e s).inbox = .event e :: s.inbox := rfl
@[simp] theorem presentEvent_tx (e : PortEvent) : (presentEvent e s).tx = s.tx := rfl
@[simp] theorem presentEvent_wrOut (e : PortEvent) : (presentEvent e s).wrOut = s.wrOut := rfl
@[simp] theorem presentEvent_freeCtr (e : PortEvent) : (presentEvent e s).freeCtr = s.freeCtr := rfl
@[simp] theorem presentEvent_qSeed (e : PortEvent) : (presentEvent e s).qSeed = s.qSeed := rfl

/-! ## `driftStats` -/

@[simp] theorem driftStats_pstate : (driftStats s).pstate = s.pstate := rfl
@[simp] theorem driftStats_facc : (driftStats s).facc = s.facc := rfl
@[simp] theorem driftStats_rlat : (driftStats s).rlat = s.rlat := rfl
@[simp] theorem driftStats_txeEn : (driftStats s).txeEn = s.txeEn := rfl
@[simp] theorem driftStats_qbuf : (driftStats s).qbuf = s.qbuf := rfl
@[simp] theorem driftStats_qWr : (driftStats s).qWr = s.qWr := rfl
@[simp] theorem driftStats_qRd : (driftStats s).qRd = s.qRd := rfl
@[simp] theorem driftStats_qFull : (driftStats s).qFull = s.qFull := rfl
@[simp] theorem driftStats_table : (driftStats s).table = s.table := rfl
@[simp] theorem driftStats_fault : (driftStats s).fault = s.fault := rfl
@[simp] theorem driftStats_faultMask : (driftStats s).faultMask = s.faultMask := rfl
@[simp] theorem driftStats_enabled : (driftStats s).enabled = s.enabled := rfl
@[simp] theorem driftStats_ready : (driftStats s).ready = s.ready := rfl
@[simp] theorem driftStats_faultActive : (driftStats s).faultActive = s.faultActive := rfl
@[simp] theorem driftStats_nir : (driftStats s).nir = s.nir := rfl
@[simp] theorem driftStats_pwrEn0 : (driftStats s).pwrEn0 = s.pwrEn0 := rfl
@[simp] theorem driftStats_pwrEn1 : (driftStats s).pwrEn1 = s.pwrEn1 := rfl
@[simp] theorem driftStats_faultLed : (driftStats s).faultLed = s.faultLed := rfl
@[simp] theorem driftStats_afeCont : (driftStats s).afeCont = s.afeCont := rfl
@[simp] theorem driftStats_mode : (driftStats s).mode = s.mode := rfl
@[simp] theorem driftStats_sp : (driftStats s).sp = s.sp := rfl
@[simp] theorem driftStats_wdgLast : (driftStats s).wdgLast = s.wdgLast := rfl
@[simp] theorem driftStats_stats : (driftStats s).stats = Config.freeStats s.freeCtr := rfl
@[simp] theorem driftStats_debCnt : (driftStats s).debCnt = s.debCnt := rfl
@[simp] theorem driftStats_dacCode : (driftStats s).dacCode = s.dacCode := rfl
@[simp] theorem driftStats_dacTarget : (driftStats s).dacTarget = s.dacTarget := rfl
@[simp] theorem driftStats_slewRun : (driftStats s).slewRun = s.slewRun := rfl
@[simp] theorem driftStats_transient : (driftStats s).transient = s.transient := rfl
@[simp] theorem driftStats_integ : (driftStats s).integ = s.integ := rfl
@[simp] theorem driftStats_inbox : (driftStats s).inbox = s.inbox := rfl
@[simp] theorem driftStats_tx : (driftStats s).tx = s.tx := rfl
@[simp] theorem driftStats_wrOut : (driftStats s).wrOut = s.wrOut := rfl
@[simp] theorem driftStats_freeCtr : (driftStats s).freeCtr = s.freeCtr + 1 := rfl
@[simp] theorem driftStats_qSeed : (driftStats s).qSeed = s.qSeed := rfl

/-! ## `State.resetOf` -/

@[simp] theorem resetOf_pstate : (State.resetOf p).pstate = .sync := rfl
@[simp] theorem resetOf_facc : (State.resetOf p).facc = 0 := rfl
@[simp] theorem resetOf_rlat : (State.resetOf p).rlat = 0 := rfl
@[simp] theorem resetOf_txeEn : (State.resetOf p).txeEn = false := rfl
@[simp] theorem resetOf_qbuf : (State.resetOf p).qbuf = [] := rfl
@[simp] theorem resetOf_qWr : (State.resetOf p).qWr = 0 := rfl
@[simp] theorem resetOf_qRd : (State.resetOf p).qRd = 0 := rfl
@[simp] theorem resetOf_qFull : (State.resetOf p).qFull = false := rfl
@[simp] theorem resetOf_table : (State.resetOf p).table = [] := rfl
@[simp] theorem resetOf_fault : (State.resetOf p).fault = 0 := rfl
@[simp] theorem resetOf_faultMask : (State.resetOf p).faultMask = (p.FAULT_MASK_RESET ||| p.NON_MASKABLE) &&& allFaults := rfl
@[simp] theorem resetOf_enabled : (State.resetOf p).enabled = false := rfl
@[simp] theorem resetOf_ready : (State.resetOf p).ready = false := rfl
@[simp] theorem resetOf_faultActive : (State.resetOf p).faultActive = false := rfl
@[simp] theorem resetOf_nir : (State.resetOf p).nir = false := rfl
@[simp] theorem resetOf_pwrEn0 : (State.resetOf p).pwrEn0 = false := rfl
@[simp] theorem resetOf_pwrEn1 : (State.resetOf p).pwrEn1 = false := rfl
@[simp] theorem resetOf_faultLed : (State.resetOf p).faultLed = false := rfl
@[simp] theorem resetOf_afeCont : (State.resetOf p).afeCont = false := rfl
@[simp] theorem resetOf_mode : (State.resetOf p).mode = .cc := rfl
@[simp] theorem resetOf_sp : (State.resetOf p).sp = p.SP_MIN := rfl
@[simp] theorem resetOf_wdgLast : (State.resetOf p).wdgLast = 0 := rfl
@[simp] theorem resetOf_stats : (State.resetOf p).stats = { mAs := 0, mWs := 0, secs := 0 } := rfl
@[simp] theorem resetOf_debCnt : (State.resetOf p).debCnt = { sensor := 0, fan1 := 0, fan2 := 0, reg := 0, fuse1 := 0, fuse2 := 0, fuse3 := 0, fuse4 := 0 } := rfl
@[simp] theorem resetOf_dacCode : (State.resetOf p).dacCode = p.DAC_ZERO_CODE := rfl
@[simp] theorem resetOf_dacTarget : (State.resetOf p).dacTarget = p.DAC_ZERO_CODE := rfl
@[simp] theorem resetOf_slewRun : (State.resetOf p).slewRun = false := rfl
@[simp] theorem resetOf_transient : (State.resetOf p).transient = false := rfl
@[simp] theorem resetOf_integ : (State.resetOf p).integ = 0 := rfl
@[simp] theorem resetOf_inbox : (State.resetOf p).inbox = [] := rfl
@[simp] theorem resetOf_tx : (State.resetOf p).tx = [] := rfl
@[simp] theorem resetOf_wrOut : (State.resetOf p).wrOut = [] := rfl
@[simp] theorem resetOf_freeCtr : (State.resetOf p).freeCtr = 0 := rfl
@[simp] theorem resetOf_qSeed : (State.resetOf p).qSeed = 0 := rfl

/-! ## `resetBlock` -/

@[simp] theorem resetBlock_pstate : (resetBlock p s).pstate = .sync := rfl
@[simp] theorem resetBlock_facc : (resetBlock p s).facc = 0 := rfl
@[simp] theorem resetBlock_rlat : (resetBlock p s).rlat = 0 := rfl
@[simp] theorem resetBlock_txeEn : (resetBlock p s).txeEn = false := rfl
@[simp] theorem resetBlock_qbuf : (resetBlock p s).qbuf = [] := rfl
@[simp] theorem resetBlock_qWr : (resetBlock p s).qWr = 0 := rfl
@[simp] theorem resetBlock_qRd : (resetBlock p s).qRd = 0 := rfl
@[simp] theorem resetBlock_qFull : (resetBlock p s).qFull = false := rfl
@[simp] theorem resetBlock_table : (resetBlock p s).table = [] := rfl
@[simp] theorem resetBlock_fault : (resetBlock p s).fault = 0 := rfl
@[simp] theorem resetBlock_faultMask : (resetBlock p s).faultMask = (p.FAULT_MASK_RESET ||| p.NON_MASKABLE) &&& allFaults := rfl
@[simp] theorem resetBlock_enabled : (resetBlock p s).enabled = false := rfl
@[simp] theorem resetBlock_ready : (resetBlock p s).ready = false := rfl
@[simp] theorem resetBlock_faultActive : (resetBlock p s).faultActive = false := rfl
@[simp] theorem resetBlock_nir : (resetBlock p s).nir = false := rfl
@[simp] theorem resetBlock_pwrEn0 : (resetBlock p s).pwrEn0 = false := rfl
@[simp] theorem resetBlock_pwrEn1 : (resetBlock p s).pwrEn1 = false := rfl
@[simp] theorem resetBlock_faultLed : (resetBlock p s).faultLed = false := rfl
@[simp] theorem resetBlock_afeCont : (resetBlock p s).afeCont = false := rfl
@[simp] theorem resetBlock_mode : (resetBlock p s).mode = .cc := rfl
@[simp] theorem resetBlock_sp : (resetBlock p s).sp = p.SP_MIN := rfl
@[simp] theorem resetBlock_wdgLast : (resetBlock p s).wdgLast = 0 := rfl
@[simp] theorem resetBlock_stats : (resetBlock p s).stats = { mAs := 0, mWs := 0, secs := 0 } := rfl
@[simp] theorem resetBlock_debCnt : (resetBlock p s).debCnt = { sensor := 0, fan1 := 0, fan2 := 0, reg := 0, fuse1 := 0, fuse2 := 0, fuse3 := 0, fuse4 := 0 } := rfl
@[simp] theorem resetBlock_dacCode : (resetBlock p s).dacCode = p.DAC_ZERO_CODE := rfl
@[simp] theorem resetBlock_dacTarget : (resetBlock p s).dacTarget = p.DAC_ZERO_CODE := rfl
@[simp] theorem resetBlock_slewRun : (resetBlock p s).slewRun = false := rfl
@[simp] theorem resetBlock_transient : (resetBlock p s).transient = false := rfl
@[simp] theorem resetBlock_integ : (resetBlock p s).integ = 0 := rfl
@[simp] theorem resetBlock_inbox : (resetBlock p s).inbox = s.inbox := rfl
@[simp] theorem resetBlock_tx : (resetBlock p s).tx = s.tx := rfl
@[simp] theorem resetBlock_wrOut : (resetBlock p s).wrOut = s.wrOut := rfl
@[simp] theorem resetBlock_freeCtr : (resetBlock p s).freeCtr = s.freeCtr := rfl
@[simp] theorem resetBlock_qSeed : (resetBlock p s).qSeed = s.freeCtr := rfl

end Sys2Proof.Machine
end

