-- ==== Sys2Proof/Laws/Fault.lean ====
section
/-! SUPPORT. The fault and enable logic: what each operation leaves alone, field by field, and all it can do. -/

namespace Sys2Proof.Machine

variable (p : Params) (s : State)

/-! ## `enableFalse` leaves alone -/

@[simp] theorem enableFalse_pstate : (enableFalse p s).pstate = s.pstate := by
  unfold enableFalse; split <;> rfl
@[simp] theorem enableFalse_facc : (enableFalse p s).facc = s.facc := by
  unfold enableFalse; split <;> rfl
@[simp] theorem enableFalse_rlat : (enableFalse p s).rlat = s.rlat := by
  unfold enableFalse; split <;> rfl
@[simp] theorem enableFalse_txeEn : (enableFalse p s).txeEn = s.txeEn := by
  unfold enableFalse; split <;> rfl
@[simp] theorem enableFalse_qbuf : (enableFalse p s).qbuf = s.qbuf := by
  unfold enableFalse; split <;> rfl
@[simp] theorem enableFalse_qWr : (enableFalse p s).qWr = s.qWr := by
  unfold enableFalse; split <;> rfl
@[simp] theorem enableFalse_qRd : (enableFalse p s).qRd = s.qRd := by
  unfold enableFalse; split <;> rfl
@[simp] theorem enableFalse_qFull : (enableFalse p s).qFull = s.qFull := by
  unfold enableFalse; split <;> rfl
@[simp] theorem enableFalse_table : (enableFalse p s).table = s.table := by
  unfold enableFalse; split <;> rfl
@[simp] theorem enableFalse_fault : (enableFalse p s).fault = s.fault := by
  unfold enableFalse; split <;> rfl
@[simp] theorem enableFalse_faultMask : (enableFalse p s).faultMask = s.faultMask := by
  unfold enableFalse; split <;> rfl
@[simp] theorem enableFalse_ready : (enableFalse p s).ready = s.ready := by
  unfold enableFalse; split <;> rfl
@[simp] theorem enableFalse_faultActive : (enableFalse p s).faultActive = s.faultActive := by
  unfold enableFalse; split <;> rfl
@[simp] theorem enableFalse_faultLed : (enableFalse p s).faultLed = s.faultLed := by
  unfold enableFalse; split <;> rfl
@[simp] theorem enableFalse_mode : (enableFalse p s).mode = s.mode := by
  unfold enableFalse; split <;> rfl
@[simp] theorem enableFalse_sp : (enableFalse p s).sp = s.sp := by
  unfold enableFalse; split <;> rfl
@[simp] theorem enableFalse_wdgLast : (enableFalse p s).wdgLast = s.wdgLast := by
  unfold enableFalse; split <;> rfl
@[simp] theorem enableFalse_stats : (enableFalse p s).stats = s.stats := by
  unfold enableFalse; split <;> rfl
@[simp] theorem enableFalse_debCnt : (enableFalse p s).debCnt = s.debCnt := by
  unfold enableFalse; split <;> rfl
@[simp] theorem enableFalse_inbox : (enableFalse p s).inbox = s.inbox := by
  unfold enableFalse; split <;> rfl
@[simp] theorem enableFalse_tx : (enableFalse p s).tx = s.tx := by
  unfold enableFalse; split <;> rfl
@[simp] theorem enableFalse_wrOut : (enableFalse p s).wrOut = s.wrOut := by
  unfold enableFalse; split <;> rfl
@[simp] theorem enableFalse_freeCtr : (enableFalse p s).freeCtr = s.freeCtr := by
  unfold enableFalse; split <;> rfl
@[simp] theorem enableFalse_qSeed : (enableFalse p s).qSeed = s.qSeed := by
  unfold enableFalse; split <;> rfl

/-! ## `checkFaults` leaves alone -/

@[simp] theorem checkFaults_pstate : (checkFaults p s).pstate = s.pstate := by
  simp only [checkFaults]; split <;> simp
@[simp] theorem checkFaults_facc : (checkFaults p s).facc = s.facc := by
  simp only [checkFaults]; split <;> simp
@[simp] theorem checkFaults_rlat : (checkFaults p s).rlat = s.rlat := by
  simp only [checkFaults]; split <;> simp
@[simp] theorem checkFaults_txeEn : (checkFaults p s).txeEn = s.txeEn := by
  simp only [checkFaults]; split <;> simp
@[simp] theorem checkFaults_qbuf : (checkFaults p s).qbuf = s.qbuf := by
  simp only [checkFaults]; split <;> simp
@[simp] theorem checkFaults_qWr : (checkFaults p s).qWr = s.qWr := by
  simp only [checkFaults]; split <;> simp
@[simp] theorem checkFaults_qRd : (checkFaults p s).qRd = s.qRd := by
  simp only [checkFaults]; split <;> simp
@[simp] theorem checkFaults_qFull : (checkFaults p s).qFull = s.qFull := by
  simp only [checkFaults]; split <;> simp
@[simp] theorem checkFaults_table : (checkFaults p s).table = s.table := by
  simp only [checkFaults]; split <;> simp
@[simp] theorem checkFaults_fault : (checkFaults p s).fault = s.fault := by
  simp only [checkFaults]; split <;> simp
@[simp] theorem checkFaults_faultMask : (checkFaults p s).faultMask = s.faultMask := by
  simp only [checkFaults]; split <;> simp
@[simp] theorem checkFaults_ready : (checkFaults p s).ready = s.ready := by
  simp only [checkFaults]; split <;> simp
@[simp] theorem checkFaults_mode : (checkFaults p s).mode = s.mode := by
  simp only [checkFaults]; split <;> simp
@[simp] theorem checkFaults_sp : (checkFaults p s).sp = s.sp := by
  simp only [checkFaults]; split <;> simp
@[simp] theorem checkFaults_wdgLast : (checkFaults p s).wdgLast = s.wdgLast := by
  simp only [checkFaults]; split <;> simp
@[simp] theorem checkFaults_stats : (checkFaults p s).stats = s.stats := by
  simp only [checkFaults]; split <;> simp
@[simp] theorem checkFaults_debCnt : (checkFaults p s).debCnt = s.debCnt := by
  simp only [checkFaults]; split <;> simp
@[simp] theorem checkFaults_inbox : (checkFaults p s).inbox = s.inbox := by
  simp only [checkFaults]; split <;> simp
@[simp] theorem checkFaults_tx : (checkFaults p s).tx = s.tx := by
  simp only [checkFaults]; split <;> simp
@[simp] theorem checkFaults_wrOut : (checkFaults p s).wrOut = s.wrOut := by
  simp only [checkFaults]; split <;> simp
@[simp] theorem checkFaults_freeCtr : (checkFaults p s).freeCtr = s.freeCtr := by
  simp only [checkFaults]; split <;> simp
@[simp] theorem checkFaults_qSeed : (checkFaults p s).qSeed = s.qSeed := by
  simp only [checkFaults]; split <;> simp

/-! ## `trigger` leaves alone -/

@[simp] theorem trigger_pstate (bits : FaultBits) : (trigger p bits s).pstate = s.pstate := by
  simp only [trigger]; split <;> simp
@[simp] theorem trigger_facc (bits : FaultBits) : (trigger p bits s).facc = s.facc := by
  simp only [trigger]; split <;> simp
@[simp] theorem trigger_rlat (bits : FaultBits) : (trigger p bits s).rlat = s.rlat := by
  simp only [trigger]; split <;> simp
@[simp] theorem trigger_txeEn (bits : FaultBits) : (trigger p bits s).txeEn = s.txeEn := by
  simp only [trigger]; split <;> simp
@[simp] theorem trigger_qbuf (bits : FaultBits) : (trigger p bits s).qbuf = s.qbuf := by
  simp only [trigger]; split <;> simp
@[simp] theorem trigger_qWr (bits : FaultBits) : (trigger p bits s).qWr = s.qWr := by
  simp only [trigger]; split <;> simp
@[simp] theorem trigger_qRd (bits : FaultBits) : (trigger p bits s).qRd = s.qRd := by
  simp only [trigger]; split <;> simp
@[simp] theorem trigger_qFull (bits : FaultBits) : (trigger p bits s).qFull = s.qFull := by
  simp only [trigger]; split <;> simp
@[simp] theorem trigger_table (bits : FaultBits) : (trigger p bits s).table = s.table := by
  simp only [trigger]; split <;> simp
@[simp] theorem trigger_faultMask (bits : FaultBits) : (trigger p bits s).faultMask = s.faultMask := by
  simp only [trigger]; split <;> simp
@[simp] theorem trigger_ready (bits : FaultBits) : (trigger p bits s).ready = s.ready := by
  simp only [trigger]; split <;> simp
@[simp] theorem trigger_mode (bits : FaultBits) : (trigger p bits s).mode = s.mode := by
  simp only [trigger]; split <;> simp
@[simp] theorem trigger_sp (bits : FaultBits) : (trigger p bits s).sp = s.sp := by
  simp only [trigger]; split <;> simp
@[simp] theorem trigger_wdgLast (bits : FaultBits) : (trigger p bits s).wdgLast = s.wdgLast := by
  simp only [trigger]; split <;> simp
@[simp] theorem trigger_stats (bits : FaultBits) : (trigger p bits s).stats = s.stats := by
  simp only [trigger]; split <;> simp
@[simp] theorem trigger_debCnt (bits : FaultBits) : (trigger p bits s).debCnt = s.debCnt := by
  simp only [trigger]; split <;> simp
@[simp] theorem trigger_inbox (bits : FaultBits) : (trigger p bits s).inbox = s.inbox := by
  simp only [trigger]; split <;> simp
@[simp] theorem trigger_tx (bits : FaultBits) : (trigger p bits s).tx = s.tx := by
  simp only [trigger]; split <;> simp
@[simp] theorem trigger_wrOut (bits : FaultBits) : (trigger p bits s).wrOut = s.wrOut := by
  simp only [trigger]; split <;> simp
@[simp] theorem trigger_freeCtr (bits : FaultBits) : (trigger p bits s).freeCtr = s.freeCtr := by
  simp only [trigger]; split <;> simp
@[simp] theorem trigger_qSeed (bits : FaultBits) : (trigger p bits s).qSeed = s.qSeed := by
  simp only [trigger]; split <;> simp

/-! ## `clearFaults` leaves alone -/

@[simp] theorem clearFaults_pstate (bits : FaultBits) : (clearFaults p bits s).pstate = s.pstate := by simp [clearFaults]
@[simp] theorem clearFaults_facc (bits : FaultBits) : (clearFaults p bits s).facc = s.facc := by simp [clearFaults]
@[simp] theorem clearFaults_rlat (bits : FaultBits) : (clearFaults p bits s).rlat = s.rlat := by simp [clearFaults]
@[simp] theorem clearFaults_txeEn (bits : FaultBits) : (clearFaults p bits s).txeEn = s.txeEn := by simp [clearFaults]
@[simp] theorem clearFaults_qbuf (bits : FaultBits) : (clearFaults p bits s).qbuf = s.qbuf := by simp [clearFaults]
@[simp] theorem clearFaults_qWr (bits : FaultBits) : (clearFaults p bits s).qWr = s.qWr := by simp [clearFaults]
@[simp] theorem clearFaults_qRd (bits : FaultBits) : (clearFaults p bits s).qRd = s.qRd := by simp [clearFaults]
@[simp] theorem clearFaults_qFull (bits : FaultBits) : (clearFaults p bits s).qFull = s.qFull := by simp [clearFaults]
@[simp] theorem clearFaults_table (bits : FaultBits) : (clearFaults p bits s).table = s.table := by simp [clearFaults]
@[simp] theorem clearFaults_faultMask (bits : FaultBits) : (clearFaults p bits s).faultMask = s.faultMask := by simp [clearFaults]
@[simp] theorem clearFaults_ready (bits : FaultBits) : (clearFaults p bits s).ready = s.ready := by simp [clearFaults]
@[simp] theorem clearFaults_mode (bits : FaultBits) : (clearFaults p bits s).mode = s.mode := by simp [clearFaults]
@[simp] theorem clearFaults_sp (bits : FaultBits) : (clearFaults p bits s).sp = s.sp := by simp [clearFaults]
@[simp] theorem clearFaults_wdgLast (bits : FaultBits) : (clearFaults p bits s).wdgLast = s.wdgLast := by simp [clearFaults]
@[simp] theorem clearFaults_stats (bits : FaultBits) : (clearFaults p bits s).stats = s.stats := by simp [clearFaults]
@[simp] theorem clearFaults_debCnt (bits : FaultBits) : (clearFaults p bits s).debCnt = s.debCnt := by simp [clearFaults]
@[simp] theorem clearFaults_inbox (bits : FaultBits) : (clearFaults p bits s).inbox = s.inbox := by simp [clearFaults]
@[simp] theorem clearFaults_tx (bits : FaultBits) : (clearFaults p bits s).tx = s.tx := by simp [clearFaults]
@[simp] theorem clearFaults_wrOut (bits : FaultBits) : (clearFaults p bits s).wrOut = s.wrOut := by simp [clearFaults]
@[simp] theorem clearFaults_freeCtr (bits : FaultBits) : (clearFaults p bits s).freeCtr = s.freeCtr := by simp [clearFaults]
@[simp] theorem clearFaults_qSeed (bits : FaultBits) : (clearFaults p bits s).qSeed = s.qSeed := by simp [clearFaults]

/-! ## `setFaultMask` leaves alone -/

@[simp] theorem setFaultMask_pstate (m : FaultBits) : (setFaultMask p m s).pstate = s.pstate := by simp [setFaultMask]
@[simp] theorem setFaultMask_facc (m : FaultBits) : (setFaultMask p m s).facc = s.facc := by simp [setFaultMask]
@[simp] theorem setFaultMask_rlat (m : FaultBits) : (setFaultMask p m s).rlat = s.rlat := by simp [setFaultMask]
@[simp] theorem setFaultMask_txeEn (m : FaultBits) : (setFaultMask p m s).txeEn = s.txeEn := by simp [setFaultMask]
@[simp] theorem setFaultMask_qbuf (m : FaultBits) : (setFaultMask p m s).qbuf = s.qbuf := by simp [setFaultMask]
@[simp] theorem setFaultMask_qWr (m : FaultBits) : (setFaultMask p m s).qWr = s.qWr := by simp [setFaultMask]
@[simp] theorem setFaultMask_qRd (m : FaultBits) : (setFaultMask p m s).qRd = s.qRd := by simp [setFaultMask]
@[simp] theorem setFaultMask_qFull (m : FaultBits) : (setFaultMask p m s).qFull = s.qFull := by simp [setFaultMask]
@[simp] theorem setFaultMask_table (m : FaultBits) : (setFaultMask p m s).table = s.table := by simp [setFaultMask]
@[simp] theorem setFaultMask_fault (m : FaultBits) : (setFaultMask p m s).fault = s.fault := by simp [setFaultMask]
@[simp] theorem setFaultMask_ready (m : FaultBits) : (setFaultMask p m s).ready = s.ready := by simp [setFaultMask]
@[simp] theorem setFaultMask_mode (m : FaultBits) : (setFaultMask p m s).mode = s.mode := by simp [setFaultMask]
@[simp] theorem setFaultMask_sp (m : FaultBits) : (setFaultMask p m s).sp = s.sp := by simp [setFaultMask]
@[simp] theorem setFaultMask_wdgLast (m : FaultBits) : (setFaultMask p m s).wdgLast = s.wdgLast := by simp [setFaultMask]
@[simp] theorem setFaultMask_stats (m : FaultBits) : (setFaultMask p m s).stats = s.stats := by simp [setFaultMask]
@[simp] theorem setFaultMask_debCnt (m : FaultBits) : (setFaultMask p m s).debCnt = s.debCnt := by simp [setFaultMask]
@[simp] theorem setFaultMask_inbox (m : FaultBits) : (setFaultMask p m s).inbox = s.inbox := by simp [setFaultMask]
@[simp] theorem setFaultMask_tx (m : FaultBits) : (setFaultMask p m s).tx = s.tx := by simp [setFaultMask]
@[simp] theorem setFaultMask_wrOut (m : FaultBits) : (setFaultMask p m s).wrOut = s.wrOut := by simp [setFaultMask]
@[simp] theorem setFaultMask_freeCtr (m : FaultBits) : (setFaultMask p m s).freeCtr = s.freeCtr := by simp [setFaultMask]
@[simp] theorem setFaultMask_qSeed (m : FaultBits) : (setFaultMask p m s).qSeed = s.qSeed := by simp [setFaultMask]

/-! ## `setCurrent` leaves alone -/

@[simp] theorem setCurrent_pstate (mA : Nat) (slew : Bool) : (setCurrent p mA slew s).pstate = s.pstate := by
  unfold setCurrent; split <;> rfl
@[simp] theorem setCurrent_facc (mA : Nat) (slew : Bool) : (setCurrent p mA slew s).facc = s.facc := by
  unfold setCurrent; split <;> rfl
@[simp] theorem setCurrent_rlat (mA : Nat) (slew : Bool) : (setCurrent p mA slew s).rlat = s.rlat := by
  unfold setCurrent; split <;> rfl
@[simp] theorem setCurrent_txeEn (mA : Nat) (slew : Bool) : (setCurrent p mA slew s).txeEn = s.txeEn := by
  unfold setCurrent; split <;> rfl
@[simp] theorem setCurrent_qbuf (mA : Nat) (slew : Bool) : (setCurrent p mA slew s).qbuf = s.qbuf := by
  unfold setCurrent; split <;> rfl
@[simp] theorem setCurrent_qWr (mA : Nat) (slew : Bool) : (setCurrent p mA slew s).qWr = s.qWr := by
  unfold setCurrent; split <;> rfl
@[simp] theorem setCurrent_qRd (mA : Nat) (slew : Bool) : (setCurrent p mA slew s).qRd = s.qRd := by
  unfold setCurrent; split <;> rfl
@[simp] theorem setCurrent_qFull (mA : Nat) (slew : Bool) : (setCurrent p mA slew s).qFull = s.qFull := by
  unfold setCurrent; split <;> rfl
@[simp] theorem setCurrent_table (mA : Nat) (slew : Bool) : (setCurrent p mA slew s).table = s.table := by
  unfold setCurrent; split <;> rfl
@[simp] theorem setCurrent_fault (mA : Nat) (slew : Bool) : (setCurrent p mA slew s).fault = s.fault := by
  unfold setCurrent; split <;> rfl
@[simp] theorem setCurrent_faultMask (mA : Nat) (slew : Bool) : (setCurrent p mA slew s).faultMask = s.faultMask := by
  unfold setCurrent; split <;> rfl
@[simp] theorem setCurrent_enabled (mA : Nat) (slew : Bool) : (setCurrent p mA slew s).enabled = s.enabled := by
  unfold setCurrent; split <;> rfl
@[simp] theorem setCurrent_ready (mA : Nat) (slew : Bool) : (setCurrent p mA slew s).ready = s.ready := by
  unfold setCurrent; split <;> rfl
@[simp] theorem setCurrent_faultActive (mA : Nat) (slew : Bool) : (setCurrent p mA slew s).faultActive = s.faultActive := by
  unfold setCurrent; split <;> rfl
@[simp] theorem setCurrent_nir (mA : Nat) (slew : Bool) : (setCurrent p mA slew s).nir = s.nir := by
  unfold setCurrent; split <;> rfl
@[simp] theorem setCurrent_pwrEn0 (mA : Nat) (slew : Bool) : (setCurrent p mA slew s).pwrEn0 = s.pwrEn0 := by
  unfold setCurrent; split <;> rfl
@[simp] theorem setCurrent_pwrEn1 (mA : Nat) (slew : Bool) : (setCurrent p mA slew s).pwrEn1 = s.pwrEn1 := by
  unfold setCurrent; split <;> rfl
@[simp] theorem setCurrent_faultLed (mA : Nat) (slew : Bool) : (setCurrent p mA slew s).faultLed = s.faultLed := by
  unfold setCurrent; split <;> rfl
@[simp] theorem setCurrent_afeCont (mA : Nat) (slew : Bool) : (setCurrent p mA slew s).afeCont = s.afeCont := by
  unfold setCurrent; split <;> rfl
@[simp] theorem setCurrent_mode (mA : Nat) (slew : Bool) : (setCurrent p mA slew s).mode = s.mode := by
  unfold setCurrent; split <;> rfl
@[simp] theorem setCurrent_sp (mA : Nat) (slew : Bool) : (setCurrent p mA slew s).sp = s.sp := by
  unfold setCurrent; split <;> rfl
@[simp] theorem setCurrent_wdgLast (mA : Nat) (slew : Bool) : (setCurrent p mA slew s).wdgLast = s.wdgLast := by
  unfold setCurrent; split <;> rfl
@[simp] theorem setCurrent_stats (mA : Nat) (slew : Bool) : (setCurrent p mA slew s).stats = s.stats := by
  unfold setCurrent; split <;> rfl
@[simp] theorem setCurrent_debCnt (mA : Nat) (slew : Bool) : (setCurrent p mA slew s).debCnt = s.debCnt := by
  unfold setCurrent; split <;> rfl
@[simp] theorem setCurrent_integ (mA : Nat) (slew : Bool) : (setCurrent p mA slew s).integ = s.integ := by
  unfold setCurrent; split <;> rfl
@[simp] theorem setCurrent_inbox (mA : Nat) (slew : Bool) : (setCurrent p mA slew s).inbox = s.inbox := by
  unfold setCurrent; split <;> rfl
@[simp] theorem setCurrent_tx (mA : Nat) (slew : Bool) : (setCurrent p mA slew s).tx = s.tx := by
  unfold setCurrent; split <;> rfl
@[simp] theorem setCurrent_wrOut (mA : Nat) (slew : Bool) : (setCurrent p mA slew s).wrOut = s.wrOut := by
  unfold setCurrent; split <;> rfl
@[simp] theorem setCurrent_freeCtr (mA : Nat) (slew : Bool) : (setCurrent p mA slew s).freeCtr = s.freeCtr := by
  unfold setCurrent; split <;> rfl
@[simp] theorem setCurrent_qSeed (mA : Nat) (slew : Bool) : (setCurrent p mA slew s).qSeed = s.qSeed := by
  unfold setCurrent; split <;> rfl

/-! ## `enableTrue` leaves alone -/

@[simp] theorem enableTrue_pstate (now : Millis) : (enableTrue p now s).pstate = s.pstate := by
  simp only [enableTrue]; split <;> [skip; rfl]; split <;> simp
@[simp] theorem enableTrue_facc (now : Millis) : (enableTrue p now s).facc = s.facc := by
  simp only [enableTrue]; split <;> [skip; rfl]; split <;> simp
@[simp] theorem enableTrue_rlat (now : Millis) : (enableTrue p now s).rlat = s.rlat := by
  simp only [enableTrue]; split <;> [skip; rfl]; split <;> simp
@[simp] theorem enableTrue_txeEn (now : Millis) : (enableTrue p now s).txeEn = s.txeEn := by
  simp only [enableTrue]; split <;> [skip; rfl]; split <;> simp
@[simp] theorem enableTrue_qbuf (now : Millis) : (enableTrue p now s).qbuf = s.qbuf := by
  simp only [enableTrue]; split <;> [skip; rfl]; split <;> simp
@[simp] theorem enableTrue_qWr (now : Millis) : (enableTrue p now s).qWr = s.qWr := by
  simp only [enableTrue]; split <;> [skip; rfl]; split <;> simp
@[simp] theorem enableTrue_qRd (now : Millis) : (enableTrue p now s).qRd = s.qRd := by
  simp only [enableTrue]; split <;> [skip; rfl]; split <;> simp
@[simp] theorem enableTrue_qFull (now : Millis) : (enableTrue p now s).qFull = s.qFull := by
  simp only [enableTrue]; split <;> [skip; rfl]; split <;> simp
@[simp] theorem enableTrue_table (now : Millis) : (enableTrue p now s).table = s.table := by
  simp only [enableTrue]; split <;> [skip; rfl]; split <;> simp
@[simp] theorem enableTrue_fault (now : Millis) : (enableTrue p now s).fault = s.fault := by
  simp only [enableTrue]; split <;> [skip; rfl]; split <;> simp
@[simp] theorem enableTrue_faultMask (now : Millis) : (enableTrue p now s).faultMask = s.faultMask := by
  simp only [enableTrue]; split <;> [skip; rfl]; split <;> simp
@[simp] theorem enableTrue_ready (now : Millis) : (enableTrue p now s).ready = s.ready := by
  simp only [enableTrue]; split <;> [skip; rfl]; split <;> simp
@[simp] theorem enableTrue_faultActive (now : Millis) : (enableTrue p now s).faultActive = s.faultActive := by
  simp only [enableTrue]; split <;> [skip; rfl]; split <;> simp
@[simp] theorem enableTrue_nir (now : Millis) : (enableTrue p now s).nir = s.nir := by
  simp only [enableTrue]; split <;> [skip; rfl]; split <;> simp
@[simp] theorem enableTrue_faultLed (now : Millis) : (enableTrue p now s).faultLed = s.faultLed := by
  simp only [enableTrue]; split <;> [skip; rfl]; split <;> simp
@[simp] theorem enableTrue_mode (now : Millis) : (enableTrue p now s).mode = s.mode := by
  simp only [enableTrue]; split <;> [skip; rfl]; split <;> simp
@[simp] theorem enableTrue_sp (now : Millis) : (enableTrue p now s).sp = s.sp := by
  simp only [enableTrue]; split <;> [skip; rfl]; split <;> simp
@[simp] theorem enableTrue_debCnt (now : Millis) : (enableTrue p now s).debCnt = s.debCnt := by
  simp only [enableTrue]; split <;> [skip; rfl]; split <;> simp
@[simp] theorem enableTrue_inbox (now : Millis) : (enableTrue p now s).inbox = s.inbox := by
  simp only [enableTrue]; split <;> [skip; rfl]; split <;> simp
@[simp] theorem enableTrue_tx (now : Millis) : (enableTrue p now s).tx = s.tx := by
  simp only [enableTrue]; split <;> [skip; rfl]; split <;> simp
@[simp] theorem enableTrue_wrOut (now : Millis) : (enableTrue p now s).wrOut = s.wrOut := by
  simp only [enableTrue]; split <;> [skip; rfl]; split <;> simp
@[simp] theorem enableTrue_freeCtr (now : Millis) : (enableTrue p now s).freeCtr = s.freeCtr := by
  simp only [enableTrue]; split <;> [skip; rfl]; split <;> simp
@[simp] theorem enableTrue_qSeed (now : Millis) : (enableTrue p now s).qSeed = s.qSeed := by
  simp only [enableTrue]; split <;> [skip; rfl]; split <;> simp

/-! ## `wdgCheck` leaves alone -/

@[simp] theorem wdgCheck_pstate (now : Millis) : (wdgCheck p now s).pstate = s.pstate := by
  unfold wdgCheck; split <;> simp
@[simp] theorem wdgCheck_facc (now : Millis) : (wdgCheck p now s).facc = s.facc := by
  unfold wdgCheck; split <;> simp
@[simp] theorem wdgCheck_rlat (now : Millis) : (wdgCheck p now s).rlat = s.rlat := by
  unfold wdgCheck; split <;> simp
@[simp] theorem wdgCheck_txeEn (now : Millis) : (wdgCheck p now s).txeEn = s.txeEn := by
  unfold wdgCheck; split <;> simp
@[simp] theorem wdgCheck_qbuf (now : Millis) : (wdgCheck p now s).qbuf = s.qbuf := by
  unfold wdgCheck; split <;> simp
@[simp] theorem wdgCheck_qWr (now : Millis) : (wdgCheck p now s).qWr = s.qWr := by
  unfold wdgCheck; split <;> simp
@[simp] theorem wdgCheck_qRd (now : Millis) : (wdgCheck p now s).qRd = s.qRd := by
  unfold wdgCheck; split <;> simp
@[simp] theorem wdgCheck_qFull (now : Millis) : (wdgCheck p now s).qFull = s.qFull := by
  unfold wdgCheck; split <;> simp
@[simp] theorem wdgCheck_table (now : Millis) : (wdgCheck p now s).table = s.table := by
  unfold wdgCheck; split <;> simp
@[simp] theorem wdgCheck_faultMask (now : Millis) : (wdgCheck p now s).faultMask = s.faultMask := by
  unfold wdgCheck; split <;> simp
@[simp] theorem wdgCheck_ready (now : Millis) : (wdgCheck p now s).ready = s.ready := by
  unfold wdgCheck; split <;> simp
@[simp] theorem wdgCheck_mode (now : Millis) : (wdgCheck p now s).mode = s.mode := by
  unfold wdgCheck; split <;> simp
@[simp] theorem wdgCheck_sp (now : Millis) : (wdgCheck p now s).sp = s.sp := by
  unfold wdgCheck; split <;> simp
@[simp] theorem wdgCheck_wdgLast (now : Millis) : (wdgCheck p now s).wdgLast = s.wdgLast := by
  unfold wdgCheck; split <;> simp
@[simp] theorem wdgCheck_stats (now : Millis) : (wdgCheck p now s).stats = s.stats := by
  unfold wdgCheck; split <;> simp
@[simp] theorem wdgCheck_debCnt (now : Millis) : (wdgCheck p now s).debCnt = s.debCnt := by
  unfold wdgCheck; split <;> simp
@[simp] theorem wdgCheck_inbox (now : Millis) : (wdgCheck p now s).inbox = s.inbox := by
  unfold wdgCheck; split <;> simp
@[simp] theorem wdgCheck_tx (now : Millis) : (wdgCheck p now s).tx = s.tx := by
  unfold wdgCheck; split <;> simp
@[simp] theorem wdgCheck_wrOut (now : Millis) : (wdgCheck p now s).wrOut = s.wrOut := by
  unfold wdgCheck; split <;> simp
@[simp] theorem wdgCheck_freeCtr (now : Millis) : (wdgCheck p now s).freeCtr = s.freeCtr := by
  unfold wdgCheck; split <;> simp
@[simp] theorem wdgCheck_qSeed (now : Millis) : (wdgCheck p now s).qSeed = s.qSeed := by
  unfold wdgCheck; split <;> simp

/-! ## `protectOne` leaves alone -/

@[simp] theorem protectOne_pstate (bit : FaultBits) (bad : Bool) : (protectOne p bit bad s).pstate = s.pstate := by
  unfold protectOne; split <;> simp
@[simp] theorem protectOne_facc (bit : FaultBits) (bad : Bool) : (protectOne p bit bad s).facc = s.facc := by
  unfold protectOne; split <;> simp
@[simp] theorem protectOne_rlat (bit : FaultBits) (bad : Bool) : (protectOne p bit bad s).rlat = s.rlat := by
  unfold protectOne; split <;> simp
@[simp] theorem protectOne_txeEn (bit : FaultBits) (bad : Bool) : (protectOne p bit bad s).txeEn = s.txeEn := by
  unfold protectOne; split <;> simp
@[simp] theorem protectOne_qbuf (bit : FaultBits) (bad : Bool) : (protectOne p bit bad s).qbuf = s.qbuf := by
  unfold protectOne; split <;> simp
@[simp] theorem protectOne_qWr (bit : FaultBits) (bad : Bool) : (protectOne p bit bad s).qWr = s.qWr := by
  unfold protectOne; split <;> simp
@[simp] theorem protectOne_qRd (bit : FaultBits) (bad : Bool) : (protectOne p bit bad s).qRd = s.qRd := by
  unfold protectOne; split <;> simp
@[simp] theorem protectOne_qFull (bit : FaultBits) (bad : Bool) : (protectOne p bit bad s).qFull = s.qFull := by
  unfold protectOne; split <;> simp
@[simp] theorem protectOne_table (bit : FaultBits) (bad : Bool) : (protectOne p bit bad s).table = s.table := by
  unfold protectOne; split <;> simp
@[simp] theorem protectOne_faultMask (bit : FaultBits) (bad : Bool) : (protectOne p bit bad s).faultMask = s.faultMask := by
  unfold protectOne; split <;> simp
@[simp] theorem protectOne_ready (bit : FaultBits) (bad : Bool) : (protectOne p bit bad s).ready = s.ready := by
  unfold protectOne; split <;> simp
@[simp] theorem protectOne_mode (bit : FaultBits) (bad : Bool) : (protectOne p bit bad s).mode = s.mode := by
  unfold protectOne; split <;> simp
@[simp] theorem protectOne_sp (bit : FaultBits) (bad : Bool) : (protectOne p bit bad s).sp = s.sp := by
  unfold protectOne; split <;> simp
@[simp] theorem protectOne_wdgLast (bit : FaultBits) (bad : Bool) : (protectOne p bit bad s).wdgLast = s.wdgLast := by
  unfold protectOne; split <;> simp
@[simp] theorem protectOne_stats (bit : FaultBits) (bad : Bool) : (protectOne p bit bad s).stats = s.stats := by
  unfold protectOne; split <;> simp
@[simp] theorem protectOne_debCnt (bit : FaultBits) (bad : Bool) : (protectOne p bit bad s).debCnt = s.debCnt := by
  unfold protectOne; split <;> simp
@[simp] theorem protectOne_inbox (bit : FaultBits) (bad : Bool) : (protectOne p bit bad s).inbox = s.inbox := by
  unfold protectOne; split <;> simp
@[simp] theorem protectOne_tx (bit : FaultBits) (bad : Bool) : (protectOne p bit bad s).tx = s.tx := by
  unfold protectOne; split <;> simp
@[simp] theorem protectOne_wrOut (bit : FaultBits) (bad : Bool) : (protectOne p bit bad s).wrOut = s.wrOut := by
  unfold protectOne; split <;> simp
@[simp] theorem protectOne_freeCtr (bit : FaultBits) (bad : Bool) : (protectOne p bit bad s).freeCtr = s.freeCtr := by
  unfold protectOne; split <;> simp
@[simp] theorem protectOne_qSeed (bit : FaultBits) (bad : Bool) : (protectOne p bit bad s).qSeed = s.qSeed := by
  unfold protectOne; split <;> simp

/-! ## `protect` leaves alone -/

@[simp] theorem protect_pstate (obs : Obs) : (protect p obs s).pstate = s.pstate := by simp [protect]
@[simp] theorem protect_facc (obs : Obs) : (protect p obs s).facc = s.facc := by simp [protect]
@[simp] theorem protect_rlat (obs : Obs) : (protect p obs s).rlat = s.rlat := by simp [protect]
@[simp] theorem protect_txeEn (obs : Obs) : (protect p obs s).txeEn = s.txeEn := by simp [protect]
@[simp] theorem protect_qbuf (obs : Obs) : (protect p obs s).qbuf = s.qbuf := by simp [protect]
@[simp] theorem protect_qWr (obs : Obs) : (protect p obs s).qWr = s.qWr := by simp [protect]
@[simp] theorem protect_qRd (obs : Obs) : (protect p obs s).qRd = s.qRd := by simp [protect]
@[simp] theorem protect_qFull (obs : Obs) : (protect p obs s).qFull = s.qFull := by simp [protect]
@[simp] theorem protect_table (obs : Obs) : (protect p obs s).table = s.table := by simp [protect]
@[simp] theorem protect_faultMask (obs : Obs) : (protect p obs s).faultMask = s.faultMask := by simp [protect]
@[simp] theorem protect_ready (obs : Obs) : (protect p obs s).ready = s.ready := by simp [protect]
@[simp] theorem protect_mode (obs : Obs) : (protect p obs s).mode = s.mode := by simp [protect]
@[simp] theorem protect_sp (obs : Obs) : (protect p obs s).sp = s.sp := by simp [protect]
@[simp] theorem protect_wdgLast (obs : Obs) : (protect p obs s).wdgLast = s.wdgLast := by simp [protect]
@[simp] theorem protect_stats (obs : Obs) : (protect p obs s).stats = s.stats := by simp [protect]
@[simp] theorem protect_debCnt (obs : Obs) : (protect p obs s).debCnt = s.debCnt := by simp [protect]
@[simp] theorem protect_inbox (obs : Obs) : (protect p obs s).inbox = s.inbox := by simp [protect]
@[simp] theorem protect_tx (obs : Obs) : (protect p obs s).tx = s.tx := by simp [protect]
@[simp] theorem protect_wrOut (obs : Obs) : (protect p obs s).wrOut = s.wrOut := by simp [protect]
@[simp] theorem protect_freeCtr (obs : Obs) : (protect p obs s).freeCtr = s.freeCtr := by simp [protect]
@[simp] theorem protect_qSeed (obs : Obs) : (protect p obs s).qSeed = s.qSeed := by simp [protect]

/-! ## `debFire` leaves alone -/

@[simp] theorem debFire_pstate (ch : Channel) : (debFire p ch s).pstate = s.pstate := by
  simp only [debFire]; split <;> split <;> simp
@[simp] theorem debFire_facc (ch : Channel) : (debFire p ch s).facc = s.facc := by
  simp only [debFire]; split <;> split <;> simp
@[simp] theorem debFire_rlat (ch : Channel) : (debFire p ch s).rlat = s.rlat := by
  simp only [debFire]; split <;> split <;> simp
@[simp] theorem debFire_txeEn (ch : Channel) : (debFire p ch s).txeEn = s.txeEn := by
  simp only [debFire]; split <;> split <;> simp
@[simp] theorem debFire_qbuf (ch : Channel) : (debFire p ch s).qbuf = s.qbuf := by
  simp only [debFire]; split <;> split <;> simp
@[simp] theorem debFire_qWr (ch : Channel) : (debFire p ch s).qWr = s.qWr := by
  simp only [debFire]; split <;> split <;> simp
@[simp] theorem debFire_qRd (ch : Channel) : (debFire p ch s).qRd = s.qRd := by
  simp only [debFire]; split <;> split <;> simp
@[simp] theorem debFire_qFull (ch : Channel) : (debFire p ch s).qFull = s.qFull := by
  simp only [debFire]; split <;> split <;> simp
@[simp] theorem debFire_table (ch : Channel) : (debFire p ch s).table = s.table := by
  simp only [debFire]; split <;> split <;> simp
@[simp] theorem debFire_faultMask (ch : Channel) : (debFire p ch s).faultMask = s.faultMask := by
  simp only [debFire]; split <;> split <;> simp
@[simp] theorem debFire_ready (ch : Channel) : (debFire p ch s).ready = s.ready := by
  simp only [debFire]; split <;> split <;> simp
@[simp] theorem debFire_mode (ch : Channel) : (debFire p ch s).mode = s.mode := by
  simp only [debFire]; split <;> split <;> simp
@[simp] theorem debFire_sp (ch : Channel) : (debFire p ch s).sp = s.sp := by
  simp only [debFire]; split <;> split <;> simp
@[simp] theorem debFire_wdgLast (ch : Channel) : (debFire p ch s).wdgLast = s.wdgLast := by
  simp only [debFire]; split <;> split <;> simp
@[simp] theorem debFire_stats (ch : Channel) : (debFire p ch s).stats = s.stats := by
  simp only [debFire]; split <;> split <;> simp
@[simp] theorem debFire_inbox (ch : Channel) : (debFire p ch s).inbox = s.inbox := by
  simp only [debFire]; split <;> split <;> simp
@[simp] theorem debFire_tx (ch : Channel) : (debFire p ch s).tx = s.tx := by
  simp only [debFire]; split <;> split <;> simp
@[simp] theorem debFire_wrOut (ch : Channel) : (debFire p ch s).wrOut = s.wrOut := by
  simp only [debFire]; split <;> split <;> simp
@[simp] theorem debFire_freeCtr (ch : Channel) : (debFire p ch s).freeCtr = s.freeCtr := by
  simp only [debFire]; split <;> split <;> simp
@[simp] theorem debFire_qSeed (ch : Channel) : (debFire p ch s).qSeed = s.qSeed := by
  simp only [debFire]; split <;> split <;> simp

/-! ## `debStep` leaves alone -/

@[simp] theorem debStep_pstate (ch : Channel) (bad : Bool) : (debStep p ch bad s).pstate = s.pstate := by
  simp only [debStep]; split <;> [(split <;> [(split <;> simp); rfl]); simp]
@[simp] theorem debStep_facc (ch : Channel) (bad : Bool) : (debStep p ch bad s).facc = s.facc := by
  simp only [debStep]; split <;> [(split <;> [(split <;> simp); rfl]); simp]
@[simp] theorem debStep_rlat (ch : Channel) (bad : Bool) : (debStep p ch bad s).rlat = s.rlat := by
  simp only [debStep]; split <;> [(split <;> [(split <;> simp); rfl]); simp]
@[simp] theorem debStep_txeEn (ch : Channel) (bad : Bool) : (debStep p ch bad s).txeEn = s.txeEn := by
  simp only [debStep]; split <;> [(split <;> [(split <;> simp); rfl]); simp]
@[simp] theorem debStep_qbuf (ch : Channel) (bad : Bool) : (debStep p ch bad s).qbuf = s.qbuf := by
  simp only [debStep]; split <;> [(split <;> [(split <;> simp); rfl]); simp]
@[simp] theorem debStep_qWr (ch : Channel) (bad : Bool) : (debStep p ch bad s).qWr = s.qWr := by
  simp only [debStep]; split <;> [(split <;> [(split <;> simp); rfl]); simp]
@[simp] theorem debStep_qRd (ch : Channel) (bad : Bool) : (debStep p ch bad s).qRd = s.qRd := by
  simp only [debStep]; split <;> [(split <;> [(split <;> simp); rfl]); simp]
@[simp] theorem debStep_qFull (ch : Channel) (bad : Bool) : (debStep p ch bad s).qFull = s.qFull := by
  simp only [debStep]; split <;> [(split <;> [(split <;> simp); rfl]); simp]
@[simp] theorem debStep_table (ch : Channel) (bad : Bool) : (debStep p ch bad s).table = s.table := by
  simp only [debStep]; split <;> [(split <;> [(split <;> simp); rfl]); simp]
@[simp] theorem debStep_faultMask (ch : Channel) (bad : Bool) : (debStep p ch bad s).faultMask = s.faultMask := by
  simp only [debStep]; split <;> [(split <;> [(split <;> simp); rfl]); simp]
@[simp] theorem debStep_ready (ch : Channel) (bad : Bool) : (debStep p ch bad s).ready = s.ready := by
  simp only [debStep]; split <;> [(split <;> [(split <;> simp); rfl]); simp]
@[simp] theorem debStep_mode (ch : Channel) (bad : Bool) : (debStep p ch bad s).mode = s.mode := by
  simp only [debStep]; split <;> [(split <;> [(split <;> simp); rfl]); simp]
@[simp] theorem debStep_sp (ch : Channel) (bad : Bool) : (debStep p ch bad s).sp = s.sp := by
  simp only [debStep]; split <;> [(split <;> [(split <;> simp); rfl]); simp]
@[simp] theorem debStep_wdgLast (ch : Channel) (bad : Bool) : (debStep p ch bad s).wdgLast = s.wdgLast := by
  simp only [debStep]; split <;> [(split <;> [(split <;> simp); rfl]); simp]
@[simp] theorem debStep_stats (ch : Channel) (bad : Bool) : (debStep p ch bad s).stats = s.stats := by
  simp only [debStep]; split <;> [(split <;> [(split <;> simp); rfl]); simp]
@[simp] theorem debStep_inbox (ch : Channel) (bad : Bool) : (debStep p ch bad s).inbox = s.inbox := by
  simp only [debStep]; split <;> [(split <;> [(split <;> simp); rfl]); simp]
@[simp] theorem debStep_tx (ch : Channel) (bad : Bool) : (debStep p ch bad s).tx = s.tx := by
  simp only [debStep]; split <;> [(split <;> [(split <;> simp); rfl]); simp]
@[simp] theorem debStep_wrOut (ch : Channel) (bad : Bool) : (debStep p ch bad s).wrOut = s.wrOut := by
  simp only [debStep]; split <;> [(split <;> [(split <;> simp); rfl]); simp]
@[simp] theorem debStep_freeCtr (ch : Channel) (bad : Bool) : (debStep p ch bad s).freeCtr = s.freeCtr := by
  simp only [debStep]; split <;> [(split <;> [(split <;> simp); rfl]); simp]
@[simp] theorem debStep_qSeed (ch : Channel) (bad : Bool) : (debStep p ch bad s).qSeed = s.qSeed := by
  simp only [debStep]; split <;> [(split <;> [(split <;> simp); rfl]); simp]

/-! ## `fuseStep` leaves alone -/

@[simp] theorem fuseStep_pstate (ch : Channel) (bad : Bool) : (fuseStep p ch bad s).pstate = s.pstate := by simp [fuseStep]
@[simp] theorem fuseStep_facc (ch : Channel) (bad : Bool) : (fuseStep p ch bad s).facc = s.facc := by simp [fuseStep]
@[simp] theorem fuseStep_rlat (ch : Channel) (bad : Bool) : (fuseStep p ch bad s).rlat = s.rlat := by simp [fuseStep]
@[simp] theorem fuseStep_txeEn (ch : Channel) (bad : Bool) : (fuseStep p ch bad s).txeEn = s.txeEn := by simp [fuseStep]
@[simp] theorem fuseStep_qbuf (ch : Channel) (bad : Bool) : (fuseStep p ch bad s).qbuf = s.qbuf := by simp [fuseStep]
@[simp] theorem fuseStep_qWr (ch : Channel) (bad : Bool) : (fuseStep p ch bad s).qWr = s.qWr := by simp [fuseStep]
@[simp] theorem fuseStep_qRd (ch : Channel) (bad : Bool) : (fuseStep p ch bad s).qRd = s.qRd := by simp [fuseStep]
@[simp] theorem fuseStep_qFull (ch : Channel) (bad : Bool) : (fuseStep p ch bad s).qFull = s.qFull := by simp [fuseStep]
@[simp] theorem fuseStep_table (ch : Channel) (bad : Bool) : (fuseStep p ch bad s).table = s.table := by simp [fuseStep]
@[simp] theorem fuseStep_faultMask (ch : Channel) (bad : Bool) : (fuseStep p ch bad s).faultMask = s.faultMask := by simp [fuseStep]
@[simp] theorem fuseStep_ready (ch : Channel) (bad : Bool) : (fuseStep p ch bad s).ready = s.ready := by simp [fuseStep]
@[simp] theorem fuseStep_mode (ch : Channel) (bad : Bool) : (fuseStep p ch bad s).mode = s.mode := by simp [fuseStep]
@[simp] theorem fuseStep_sp (ch : Channel) (bad : Bool) : (fuseStep p ch bad s).sp = s.sp := by simp [fuseStep]
@[simp] theorem fuseStep_wdgLast (ch : Channel) (bad : Bool) : (fuseStep p ch bad s).wdgLast = s.wdgLast := by simp [fuseStep]
@[simp] theorem fuseStep_stats (ch : Channel) (bad : Bool) : (fuseStep p ch bad s).stats = s.stats := by simp [fuseStep]
@[simp] theorem fuseStep_inbox (ch : Channel) (bad : Bool) : (fuseStep p ch bad s).inbox = s.inbox := by simp [fuseStep]
@[simp] theorem fuseStep_tx (ch : Channel) (bad : Bool) : (fuseStep p ch bad s).tx = s.tx := by simp [fuseStep]
@[simp] theorem fuseStep_wrOut (ch : Channel) (bad : Bool) : (fuseStep p ch bad s).wrOut = s.wrOut := by simp [fuseStep]
@[simp] theorem fuseStep_freeCtr (ch : Channel) (bad : Bool) : (fuseStep p ch bad s).freeCtr = s.freeCtr := by simp [fuseStep]
@[simp] theorem fuseStep_qSeed (ch : Channel) (bad : Bool) : (fuseStep p ch bad s).qSeed = s.qSeed := by simp [fuseStep]

/-! ## `regulationEval` leaves alone -/

@[simp] theorem regulationEval_pstate (vMv iMa : Measure) : (regulationEval p vMv iMa s).pstate = s.pstate := by simp [regulationEval]
@[simp] theorem regulationEval_facc (vMv iMa : Measure) : (regulationEval p vMv iMa s).facc = s.facc := by simp [regulationEval]
@[simp] theorem regulationEval_rlat (vMv iMa : Measure) : (regulationEval p vMv iMa s).rlat = s.rlat := by simp [regulationEval]
@[simp] theorem regulationEval_txeEn (vMv iMa : Measure) : (regulationEval p vMv iMa s).txeEn = s.txeEn := by simp [regulationEval]
@[simp] theorem regulationEval_qbuf (vMv iMa : Measure) : (regulationEval p vMv iMa s).qbuf = s.qbuf := by simp [regulationEval]
@[simp] theorem regulationEval_qWr (vMv iMa : Measure) : (regulationEval p vMv iMa s).qWr = s.qWr := by simp [regulationEval]
@[simp] theorem regulationEval_qRd (vMv iMa : Measure) : (regulationEval p vMv iMa s).qRd = s.qRd := by simp [regulationEval]
@[simp] theorem regulationEval_qFull (vMv iMa : Measure) : (regulationEval p vMv iMa s).qFull = s.qFull := by simp [regulationEval]
@[simp] theorem regulationEval_table (vMv iMa : Measure) : (regulationEval p vMv iMa s).table = s.table := by simp [regulationEval]
@[simp] theorem regulationEval_faultMask (vMv iMa : Measure) : (regulationEval p vMv iMa s).faultMask = s.faultMask := by simp [regulationEval]
@[simp] theorem regulationEval_ready (vMv iMa : Measure) : (regulationEval p vMv iMa s).ready = s.ready := by simp [regulationEval]
@[simp] theorem regulationEval_mode (vMv iMa : Measure) : (regulationEval p vMv iMa s).mode = s.mode := by simp [regulationEval]
@[simp] theorem regulationEval_sp (vMv iMa : Measure) : (regulationEval p vMv iMa s).sp = s.sp := by simp [regulationEval]
@[simp] theorem regulationEval_wdgLast (vMv iMa : Measure) : (regulationEval p vMv iMa s).wdgLast = s.wdgLast := by simp [regulationEval]
@[simp] theorem regulationEval_stats (vMv iMa : Measure) : (regulationEval p vMv iMa s).stats = s.stats := by simp [regulationEval]
@[simp] theorem regulationEval_inbox (vMv iMa : Measure) : (regulationEval p vMv iMa s).inbox = s.inbox := by simp [regulationEval]
@[simp] theorem regulationEval_tx (vMv iMa : Measure) : (regulationEval p vMv iMa s).tx = s.tx := by simp [regulationEval]
@[simp] theorem regulationEval_wrOut (vMv iMa : Measure) : (regulationEval p vMv iMa s).wrOut = s.wrOut := by simp [regulationEval]
@[simp] theorem regulationEval_freeCtr (vMv iMa : Measure) : (regulationEval p vMv iMa s).freeCtr = s.freeCtr := by simp [regulationEval]
@[simp] theorem regulationEval_qSeed (vMv iMa : Measure) : (regulationEval p vMv iMa s).qSeed = s.qSeed := by simp [regulationEval]

/-! ## `periodChecks` leaves alone -/

@[simp] theorem periodChecks_pstate (now : Millis) (obs : Obs) : (periodChecks p now obs s).pstate = s.pstate := by simp [periodChecks]
@[simp] theorem periodChecks_facc (now : Millis) (obs : Obs) : (periodChecks p now obs s).facc = s.facc := by simp [periodChecks]
@[simp] theorem periodChecks_rlat (now : Millis) (obs : Obs) : (periodChecks p now obs s).rlat = s.rlat := by simp [periodChecks]
@[simp] theorem periodChecks_txeEn (now : Millis) (obs : Obs) : (periodChecks p now obs s).txeEn = s.txeEn := by simp [periodChecks]
@[simp] theorem periodChecks_qbuf (now : Millis) (obs : Obs) : (periodChecks p now obs s).qbuf = s.qbuf := by simp [periodChecks]
@[simp] theorem periodChecks_qWr (now : Millis) (obs : Obs) : (periodChecks p now obs s).qWr = s.qWr := by simp [periodChecks]
@[simp] theorem periodChecks_qRd (now : Millis) (obs : Obs) : (periodChecks p now obs s).qRd = s.qRd := by simp [periodChecks]
@[simp] theorem periodChecks_qFull (now : Millis) (obs : Obs) : (periodChecks p now obs s).qFull = s.qFull := by simp [periodChecks]
@[simp] theorem periodChecks_table (now : Millis) (obs : Obs) : (periodChecks p now obs s).table = s.table := by simp [periodChecks]
@[simp] theorem periodChecks_faultMask (now : Millis) (obs : Obs) : (periodChecks p now obs s).faultMask = s.faultMask := by simp [periodChecks]
@[simp] theorem periodChecks_ready (now : Millis) (obs : Obs) : (periodChecks p now obs s).ready = s.ready := by simp [periodChecks]
@[simp] theorem periodChecks_mode (now : Millis) (obs : Obs) : (periodChecks p now obs s).mode = s.mode := by simp [periodChecks]
@[simp] theorem periodChecks_sp (now : Millis) (obs : Obs) : (periodChecks p now obs s).sp = s.sp := by simp [periodChecks]
@[simp] theorem periodChecks_wdgLast (now : Millis) (obs : Obs) : (periodChecks p now obs s).wdgLast = s.wdgLast := by simp [periodChecks]
@[simp] theorem periodChecks_stats (now : Millis) (obs : Obs) : (periodChecks p now obs s).stats = s.stats := by simp [periodChecks]
@[simp] theorem periodChecks_inbox (now : Millis) (obs : Obs) : (periodChecks p now obs s).inbox = s.inbox := by simp [periodChecks]
@[simp] theorem periodChecks_tx (now : Millis) (obs : Obs) : (periodChecks p now obs s).tx = s.tx := by simp [periodChecks]
@[simp] theorem periodChecks_wrOut (now : Millis) (obs : Obs) : (periodChecks p now obs s).wrOut = s.wrOut := by simp [periodChecks]
@[simp] theorem periodChecks_freeCtr (now : Millis) (obs : Obs) : (periodChecks p now obs s).freeCtr = s.freeCtr := by simp [periodChecks]
@[simp] theorem periodChecks_qSeed (now : Millis) (obs : Obs) : (periodChecks p now obs s).qSeed = s.qSeed := by simp [periodChecks]

/-! ## `period` leaves alone -/

@[simp] theorem period_pstate (now : Millis) (vMv iMa : Measure) (obs : Obs) : (period p now vMv iMa obs s).pstate = s.pstate := by
  simp only [period]; split <;> simp
@[simp] theorem period_facc (now : Millis) (vMv iMa : Measure) (obs : Obs) : (period p now vMv iMa obs s).facc = s.facc := by
  simp only [period]; split <;> simp
@[simp] theorem period_rlat (now : Millis) (vMv iMa : Measure) (obs : Obs) : (period p now vMv iMa obs s).rlat = s.rlat := by
  simp only [period]; split <;> simp
@[simp] theorem period_txeEn (now : Millis) (vMv iMa : Measure) (obs : Obs) : (period p now vMv iMa obs s).txeEn = s.txeEn := by
  simp only [period]; split <;> simp
@[simp] theorem period_qbuf (now : Millis) (vMv iMa : Measure) (obs : Obs) : (period p now vMv iMa obs s).qbuf = s.qbuf := by
  simp only [period]; split <;> simp
@[simp] theorem period_qWr (now : Millis) (vMv iMa : Measure) (obs : Obs) : (period p now vMv iMa obs s).qWr = s.qWr := by
  simp only [period]; split <;> simp
@[simp] theorem period_qRd (now : Millis) (vMv iMa : Measure) (obs : Obs) : (period p now vMv iMa obs s).qRd = s.qRd := by
  simp only [period]; split <;> simp
@[simp] theorem period_qFull (now : Millis) (vMv iMa : Measure) (obs : Obs) : (period p now vMv iMa obs s).qFull = s.qFull := by
  simp only [period]; split <;> simp
@[simp] theorem period_table (now : Millis) (vMv iMa : Measure) (obs : Obs) : (period p now vMv iMa obs s).table = s.table := by
  simp only [period]; split <;> simp
@[simp] theorem period_faultMask (now : Millis) (vMv iMa : Measure) (obs : Obs) : (period p now vMv iMa obs s).faultMask = s.faultMask := by
  simp only [period]; split <;> simp
@[simp] theorem period_ready (now : Millis) (vMv iMa : Measure) (obs : Obs) : (period p now vMv iMa obs s).ready = s.ready := by
  simp only [period]; split <;> simp
@[simp] theorem period_mode (now : Millis) (vMv iMa : Measure) (obs : Obs) : (period p now vMv iMa obs s).mode = s.mode := by
  simp only [period]; split <;> simp
@[simp] theorem period_sp (now : Millis) (vMv iMa : Measure) (obs : Obs) : (period p now vMv iMa obs s).sp = s.sp := by
  simp only [period]; split <;> simp
@[simp] theorem period_wdgLast (now : Millis) (vMv iMa : Measure) (obs : Obs) : (period p now vMv iMa obs s).wdgLast = s.wdgLast := by
  simp only [period]; split <;> simp
@[simp] theorem period_stats (now : Millis) (vMv iMa : Measure) (obs : Obs) : (period p now vMv iMa obs s).stats = s.stats := by
  simp only [period]; split <;> simp
@[simp] theorem period_inbox (now : Millis) (vMv iMa : Measure) (obs : Obs) : (period p now vMv iMa obs s).inbox = s.inbox := by
  simp only [period]; split <;> simp
@[simp] theorem period_tx (now : Millis) (vMv iMa : Measure) (obs : Obs) : (period p now vMv iMa obs s).tx = s.tx := by
  simp only [period]; split <;> simp
@[simp] theorem period_wrOut (now : Millis) (vMv iMa : Measure) (obs : Obs) : (period p now vMv iMa obs s).wrOut = s.wrOut := by
  simp only [period]; split <;> simp
@[simp] theorem period_freeCtr (now : Millis) (vMv iMa : Measure) (obs : Obs) : (period p now vMv iMa obs s).freeCtr = s.freeCtr := by
  simp only [period]; split <;> simp
@[simp] theorem period_qSeed (now : Millis) (vMv iMa : Measure) (obs : Obs) : (period p now vMv iMa obs s).qSeed = s.qSeed := by
  simp only [period]; split <;> simp

/-! ## All an operation can do -/

/-- All `enable(false)` can do (43_fault_enable.md R226). -/
theorem enableFalse_cases :
    (s.enabled = false ∧ enableFalse p s = s) ∨
    (s.enabled = true ∧
      enableFalse p s =
        { s with
          pwrEn0 := false, pwrEn1 := false, dacCode := p.DAC_ZERO_CODE, dacTarget := p.DAC_ZERO_CODE,
          transient := false, slewRun := false, enabled := false, nir := false, integ := 0, afeCont := false }) := by
  unfold enableFalse
  cases s.enabled <;> simp [dacForce]

@[simp] theorem enableFalse_enabled : (enableFalse p s).enabled = false := by
  obtain ⟨h, he⟩ | ⟨-, he⟩ := enableFalse_cases p s
  · rw [he, h]
  · rw [he]

theorem enableFalse_of_disabled (h : s.enabled = false) : enableFalse p s = s := by
  simp [enableFalse, h]

/-- The indicator needs a masked cause. -/
theorem ledLevel_of_no_fault (h : faultCondition s = false) : ledLevel s = false := by
  have h0 : maskedFaults s = 0 := by simpa [faultCondition] using h
  simp [ledLevel, h0]

@[simp] theorem faultCondition_enableFalse : faultCondition (enableFalse p s) = faultCondition s := by
  simp [faultCondition, maskedFaults]

@[simp] theorem ledLevel_enableFalse : ledLevel (enableFalse p s) = ledLevel s := by
  simp [ledLevel, maskedFaults]

/-- All `check_fault_conditions()` can do (43_fault_enable.md R223, R224). -/
theorem checkFaults_cases :
    (faultCondition s = true ∧
      checkFaults p s = { enableFalse p s with faultActive := true, faultLed := ledLevel s }) ∨
    (faultCondition s = false ∧ checkFaults p s = { s with faultActive := false, faultLed := false }) := by
  cases h : faultCondition s
  · exact .inr ⟨rfl, by simp [checkFaults, h, ledLevel_of_no_fault s h]⟩
  · exact .inl ⟨rfl, by simp [checkFaults, h]⟩

@[simp] theorem checkFaults_faultActive : (checkFaults p s).faultActive = faultCondition s := rfl

@[simp] theorem checkFaults_faultLed : (checkFaults p s).faultLed = ledLevel s := rfl

/-- After an evaluation the load is on only where it was on and no masked cause is latched. -/
@[simp] theorem checkFaults_enabled : (checkFaults p s).enabled = (s.enabled && !faultCondition s) := by
  obtain ⟨h, he⟩ | ⟨h, he⟩ := checkFaults_cases p s <;> simp [he, h]

/-- Disabling an enabled load ends its ramp (43_fault_enable.md R226). -/
@[simp] theorem enableFalse_transient : (enableFalse p s).transient = (s.transient && !s.enabled) := by
  obtain ⟨h, he⟩ | ⟨h, he⟩ := enableFalse_cases p s <;> simp [he, h]

@[simp] theorem checkFaults_transient :
    (checkFaults p s).transient = (s.transient && !(s.enabled && faultCondition s)) := by
  obtain ⟨h, he⟩ | ⟨h, he⟩ := checkFaults_cases p s <;> simp [he, h]

/-- Disabling first makes no difference to an evaluation that finds a masked cause. -/
theorem checkFaults_enableFalse (h : faultCondition s = true) : checkFaults p (enableFalse p s) = checkFaults p s := by
  simp only [checkFaults, faultCondition_enableFalse, h, if_true, ledLevel_enableFalse]
  rw [enableFalse_of_disabled p _ (enableFalse_enabled p s)]

/-- A masked cause stays visible under more causes. -/
theorem or_and_ne_zero {a b m : FaultBits} (h : b &&& m ≠ 0) : (a ||| b) &&& m ≠ 0 := by
  intro hc
  apply h
  apply BitVec.eq_of_getLsbD_eq
  intro i hi
  have hb := congrArg (fun x => BitVec.getLsbD x i) hc
  simp only [BitVec.getLsbD_and, BitVec.getLsbD_or] at hb ⊢
  cases h1 : a.getLsbD i <;> cases h2 : b.getLsbD i <;> cases h3 : m.getLsbD i <;> simp_all

/-- `trigger` latches and evaluates; the early disable of R220 is not observable (43_fault_enable.md R220). -/
theorem trigger_eq_checkFaults (bits : FaultBits) :
    trigger p bits s = checkFaults p { s with fault := s.fault ||| (bits &&& allFaults) } := by
  simp only [trigger]
  split
  · rename_i h
    have hc : faultCondition { s with fault := s.fault ||| (bits &&& allFaults) } = true := by
      simp only [faultCondition, maskedFaults, bne_iff_ne]
      exact or_and_ne_zero (by simpa using h)
    rw [← checkFaults_enableFalse p _ hc]
    congr 1
    obtain ⟨h1, he⟩ | ⟨h1, he⟩ := enableFalse_cases p s
    · rw [he, enableFalse_of_disabled p _ (by exact h1)]
    · simp [enableFalse, h1, dacForce]
  · rfl

@[simp] theorem trigger_fault (bits : FaultBits) :
    (trigger p bits s).fault = s.fault ||| (bits &&& allFaults) := by
  rw [trigger_eq_checkFaults]; simp

@[simp] theorem clearFaults_fault (bits : FaultBits) :
    (clearFaults p bits s).fault = s.fault &&& ~~~(bits &&& allFaults) := by
  simp [clearFaults]

@[simp] theorem setFaultMask_faultMask (m : FaultBits) :
    (setFaultMask p m s).faultMask = (m ||| p.NON_MASKABLE) &&& allFaults := by
  simp [setFaultMask]

/-- All `enable(true)` can do (43_fault_enable.md R225). -/
theorem enableTrue_cases (now : Millis) :
    (enableAllowed s = false ∧ enableTrue p now s = s) ∨
    (enableAllowed s = true ∧ s.mode = .cc ∧
      enableTrue p now s =
        { s with
          dacCode := p.DAC_MIN_CODE, dacTarget := p.CC_CODE s.sp.cc,
          transient := p.CC_CODE s.sp.cc != p.DAC_MIN_CODE, slewRun := p.CC_CODE s.sp.cc != p.DAC_MIN_CODE,
          pwrEn0 := true, pwrEn1 := true, enabled := true, stats := { mAs := 0, mWs := 0, secs := 0 },
          wdgLast := now }) ∨
    (enableAllowed s = true ∧ s.mode ≠ .cc ∧
      enableTrue p now s =
        { s with
          dacCode := p.DAC_MIN_CODE, dacTarget := p.DAC_MIN_CODE, transient := false, slewRun := false,
          pwrEn0 := true, pwrEn1 := true, integ := 0, afeCont := true, enabled := true,
          stats := { mAs := 0, mWs := 0, secs := 0 }, wdgLast := now }) := by
  cases h : enableAllowed s
  · exact .inl ⟨rfl, by simp [enableTrue, h]⟩
  · by_cases hm : s.mode = .cc
    · exact .inr (.inl ⟨rfl, hm, by simp [enableTrue, h, hm, setCurrent, dacForce, PerMode.get]⟩)
    · exact .inr (.inr ⟨rfl, hm, by simp [enableTrue, h, hm, dacForce]⟩)

end Sys2Proof.Machine
end

