-- ==== Sys2Proof/Laws/PerInstr.lean ====
section
/-! SUPPORT. The family EncodingFitsRow: the encoding of a well-formed instruction has the format, the protocol state,
the fixed bits and the condition of its row of spec/opcode_table.json, and carries its operands in the row's fields. -/

namespace Sys2Proof.Laws

open Sys2Proof.Machine

/-- A received byte in protocol state `ps` whose bits under `mask` are `value`. -/
def rxRow (ps : PState) (mask value : Byte) (e : Encoded) : Prop := ∃ b, e = .rxByte ps b ∧ b &&& mask = value

/-- A frame word with bit 31 at 0, a correct code, and the given address and data fields. -/
def frameRow (a : Addr) (d : Data) (e : Encoded) : Prop :=
  ∃ now w, e = .frameWord now w ∧ w.msb = false ∧ frameOk w = true ∧ frameAddr w = a ∧ frameData w = d

/-- What the row of `i` says of the encoding `e`. -/
def rowFits (i : Instr) (e : Encoded) : Prop :=
  let p := Config.params
  match i with
  | .sync => rxRow .sync 0xFF 0xFF e
  | .rxDiscardSync b => e = .rxByte .sync b ∧ b ≠ 0xFF
  | .readAddr a => rxRow .addr 0x80 0x80 e ∧ rxRow .addr 0x7F ((0 : BitVec 1) ++ a) e
  | .writeAddr a => rxRow .addr 0x80 0x00 e ∧ rxRow .addr 0x7F ((0 : BitVec 1) ++ a) e
  | .dataHi d => rxRow .dhi 0xFF d e
  | .dataLo d => rxRow .dlo 0xFF d e
  | .checksum c => rxRow .ck 0xFF c e
  | .rxDiscardTx b => rxRow .thi 0xFF b e ∨ rxRow .tlo 0xFF b e ∨ rxRow .tck 0xFF b e
  | .txHi => e = .txByte .thi
  | .txLo => e = .txByte .tlo
  | .txCk => e = .txByte .tck
  | .writeFrame a d c =>
    ∃ ab dh dl, e = .wire [0xFF, ab, dh, dl, c] ∧ ab.msb = false ∧ byteAddr ab = a ∧ dataOfBytes dh dl = d
  | .readFrame a => ∃ ab, e = .wire [0xFF, ab] ∧ ab.msb = true ∧ byteAddr ab = a
  | .wrEnable d _ => frameRow p.ADDR_ENABLE d e
  | .wrMode d => frameRow p.ADDR_MODE d e
  | .wrSpCc d => frameRow p.ADDR_SP_CC d e
  | .wrSpCv d => frameRow p.ADDR_SP_CV d e
  | .wrSpCr d => frameRow p.ADDR_SP_CR d e
  | .wrSpCp d => frameRow p.ADDR_SP_CP d e
  | .wrFaultClear d => frameRow p.ADDR_FAULT d e
  | .wrFaultMask d => frameRow p.ADDR_FAULT_MASK d e
  | .wrWdg d _ => frameRow p.ADDR_WDG d e
  | .wrStatus d => frameRow p.ADDR_STATUS d e
  | .wrExternal a d => frameRow a d e ∧ a.toNat < p.N_REGS ∧ isBlockAddr p a = false
  | .wrBadCode a d c =>
    ∃ now w, e = .frameWord now w ∧ w.msb = false ∧ frameOk w = false ∧ frameAddr w = a ∧ frameData w = d ∧
      frameCode w = c
  | .wrInvalidAddr a d => frameRow a d e ∧ p.N_REGS ≤ a.toNat
  | .evRx b => e = .event (.rx b)
  | .evTxe => e = .event .txe
  | .evPublish a v => e = .event (.publish a v)
  | .evDequeue now => e = .event (.dequeue now)
  | .evPeriod now v c obs => e = .event (.period now v c obs)
  | .evSample v c => e = .event (.sample v c)
  | .evSlewTick => e = .event .slewTick
  | .evSetReady r => e = .event (.setReady r)
  | .evReset => e = .event .reset

/-- The encoding of a well-formed instruction fits its row. -/
def EncodingFitsRow.Statement (i : Instr) : Prop := i.wellFormed = true → rowFits i (encode i)

theorem frameRow_goodFrame (now : Millis) (a : Addr) (d : Data) : frameRow a d (.frameWord now (goodFrame a d)) :=
  ⟨now, _, rfl, msb_goodFrame a d, frameOk_goodFrame a d, frameAddr_goodFrame a d, frameData_goodFrame a d⟩

theorem rxRow_full (ps : PState) (b : Byte) : rxRow ps 0xFF b (.rxByte ps b) :=
  ⟨b, rfl, by revert b; decide⟩

theorem addrByte_row (a : Addr) :
    addrByte 1 a &&& 0x80 = 0x80 ∧ addrByte 0 a &&& 0x80 = 0x00 ∧ addrByte 1 a &&& 0x7F = (0 : BitVec 1) ++ a ∧
      addrByte 0 a &&& 0x7F = (0 : BitVec 1) ++ a := by
  revert a
  decide

theorem EncodingFitsRow.sync : Statement .sync := fun _ => ⟨_, rfl, by decide⟩

theorem EncodingFitsRow.rxDiscardSync (b : Byte) : Statement (.rxDiscardSync b) :=
  fun h => ⟨rfl, by simpa [Instr.wellFormed, syncByte] using h⟩

theorem EncodingFitsRow.readAddr (a : Addr) : Statement (.readAddr a) :=
  fun _ => ⟨⟨_, rfl, (addrByte_row a).1⟩, ⟨_, rfl, (addrByte_row a).2.2.1⟩⟩

theorem EncodingFitsRow.writeAddr (a : Addr) : Statement (.writeAddr a) :=
  fun _ => ⟨⟨_, rfl, (addrByte_row a).2.1⟩, ⟨_, rfl, (addrByte_row a).2.2.2⟩⟩

theorem EncodingFitsRow.dataHi (d : Byte) : Statement (.dataHi d) := fun _ => rxRow_full _ d

theorem EncodingFitsRow.dataLo (d : Byte) : Statement (.dataLo d) := fun _ => rxRow_full _ d

theorem EncodingFitsRow.checksum (c : Byte) : Statement (.checksum c) := fun _ => rxRow_full _ c

theorem EncodingFitsRow.rxDiscardTx (b : Byte) : Statement (.rxDiscardTx b) := fun _ => .inl (rxRow_full _ b)

theorem EncodingFitsRow.txHi : Statement .txHi := fun _ => rfl

theorem EncodingFitsRow.txLo : Statement .txLo := fun _ => rfl

theorem EncodingFitsRow.txCk : Statement .txCk := fun _ => rfl

theorem EncodingFitsRow.writeFrame (a : Addr) (d : Data) (c : Byte) : Statement (.writeFrame a d c) :=
  fun _ => ⟨addrByte 0 a, dataHigh d, dataLow d, rfl, isReadByte_addrByte 0 a, byteAddr_addrByte 0 a,
    dataOfBytes_high_low d⟩

theorem EncodingFitsRow.readFrame (a : Addr) : Statement (.readFrame a) :=
  fun _ => ⟨addrByte 1 a, rfl, isReadByte_addrByte 1 a, byteAddr_addrByte 1 a⟩

theorem EncodingFitsRow.wrEnable (d : Data) (now : Millis) : Statement (.wrEnable d now) := fun _ => frameRow_goodFrame _ _ d

theorem EncodingFitsRow.wrMode (d : Data) : Statement (.wrMode d) := fun _ => frameRow_goodFrame _ _ d

theorem EncodingFitsRow.wrSpCc (d : Data) : Statement (.wrSpCc d) := fun _ => frameRow_goodFrame _ _ d

theorem EncodingFitsRow.wrSpCv (d : Data) : Statement (.wrSpCv d) := fun _ => frameRow_goodFrame _ _ d

theorem EncodingFitsRow.wrSpCr (d : Data) : Statement (.wrSpCr d) := fun _ => frameRow_goodFrame _ _ d

theorem EncodingFitsRow.wrSpCp (d : Data) : Statement (.wrSpCp d) := fun _ => frameRow_goodFrame _ _ d

theorem EncodingFitsRow.wrFaultClear (d : Data) : Statement (.wrFaultClear d) := fun _ => frameRow_goodFrame _ _ d

theorem EncodingFitsRow.wrFaultMask (d : Data) : Statement (.wrFaultMask d) := fun _ => frameRow_goodFrame _ _ d

theorem EncodingFitsRow.wrWdg (d : Data) (now : Millis) : Statement (.wrWdg d now) := fun _ => frameRow_goodFrame _ _ d

theorem EncodingFitsRow.wrStatus (d : Data) : Statement (.wrStatus d) := fun _ => frameRow_goodFrame _ _ d

theorem EncodingFitsRow.wrExternal (a : Addr) (d : Data) : Statement (.wrExternal a d) := by
  intro h
  simp only [Instr.wellFormed, validAddr, Bool.and_eq_true, decide_eq_true_eq, Bool.not_eq_true'] at h
  exact ⟨frameRow_goodFrame _ a d, h.1, h.2⟩

theorem EncodingFitsRow.wrBadCode (a : Addr) (d : Data) (c : Byte) : Statement (.wrBadCode a d c) := by
  intro h
  have hc : c ≠ writeCode a d := by simpa [Instr.wellFormed] using h
  exact ⟨_, _, rfl, msb_frameOf a d c, by rw [frameOk_frameOf]; simpa using hc.symm, frameAddr_frameOf a d c,
    frameData_frameOf a d c, frameCode_frameOf a d c⟩

theorem EncodingFitsRow.wrInvalidAddr (a : Addr) (d : Data) : Statement (.wrInvalidAddr a d) := by
  intro h
  exact ⟨frameRow_goodFrame _ a d, by simpa [Instr.wellFormed, validAddr] using h⟩

theorem EncodingFitsRow.evRx (b : Byte) : Statement (.evRx b) := fun _ => rfl

theorem EncodingFitsRow.evTxe : Statement .evTxe := fun _ => rfl

theorem EncodingFitsRow.evPublish (a : Addr) (v : Data) : Statement (.evPublish a v) := fun _ => rfl

theorem EncodingFitsRow.evDequeue (now : Millis) : Statement (.evDequeue now) := fun _ => rfl

theorem EncodingFitsRow.evPeriod (now : Millis) (v c : Measure) (obs : Obs) : Statement (.evPeriod now v c obs) := fun _ => rfl

theorem EncodingFitsRow.evSample (v c : Measure) : Statement (.evSample v c) := fun _ => rfl

theorem EncodingFitsRow.evSlewTick : Statement .evSlewTick := fun _ => rfl

theorem EncodingFitsRow.evSetReady (r : Bool) : Statement (.evSetReady r) := fun _ => rfl

theorem EncodingFitsRow.evReset : Statement .evReset := fun _ => rfl

end Sys2Proof.Laws
end

