-- ==== Sys2Proof/Laws/Period.lean ====
section
/-! SUPPORT. The period event: the debouncer's counters, all a debounce step can do, what a run of raised causes leaves,
all a tick can do. -/

namespace Sys2Proof.Machine

variable (p : Params) (s : State)

/-! ## Counters by channel -/

@[simp] theorem get_set_same {α : Type} (x : PerChannel α) (ch : Channel) (v : α) : (x.set ch v).get ch = v := by
  cases ch <;> rfl

theorem get_set_other {α : Type} (x : PerChannel α) {ch other : Channel} (v : α) (h : other ≠ ch) :
    (x.set ch v).get other = x.get other := by
  cases ch <;> cases other <;> first | rfl | exact absurd rfl h

@[simp] theorem set_set {α : Type} (x : PerChannel α) (ch : Channel) (u v : α) :
    (x.set ch u).set ch v = x.set ch v := by
  cases ch <;> rfl

@[simp] theorem setCount_setCount (ch : Channel) (m n : Nat) : setCount ch n (setCount ch m s) = setCount ch n s := by
  simp [setCount]

/-- Counters and fault logic do not meet. -/
theorem checkFaults_setCount (ch : Channel) (n : Nat) :
    checkFaults p (setCount ch n s) = setCount ch n (checkFaults p s) := by
  have hc : faultCondition (setCount ch n s) = faultCondition s := rfl
  have hl : ledLevel (setCount ch n s) = ledLevel s := rfl
  have he : enableFalse p (setCount ch n s) = setCount ch n (enableFalse p s) := by
    unfold enableFalse
    by_cases h : s.enabled = true
    · rw [if_pos (show (setCount ch n s).enabled = true from h), if_pos h]
      rfl
    · rw [if_neg (show ¬ (setCount ch n s).enabled = true from h), if_neg h]
  simp only [checkFaults, hc, hl, he]
  cases faultCondition s <;> rfl

theorem trigger_setCount (bits : FaultBits) (ch : Channel) (n : Nat) :
    trigger p bits (setCount ch n s) = setCount ch n (trigger p bits s) := by
  rw [trigger_eq_checkFaults, trigger_eq_checkFaults, ← checkFaults_setCount]
  rfl

/-! ## Debounce steps -/

/-- The counter of channel `ch` after it fires (44_debouncer.md R273). -/
theorem debFire_eq (ch : Channel) :
    debFire p ch s =
      setCount ch (if p.DEB_REARM = .holdBelow then p.DEB_N.get ch - 1 else p.DEB_N.get ch)
        (trigger p (channelBit ch) { s with nir := s.nir || decide (ch = .reg) }) := by
  have hf : (if ch = Channel.reg then { setCount ch (p.DEB_N.get ch) s with nir := true }
      else setCount ch (p.DEB_N.get ch) s) =
      setCount ch (p.DEB_N.get ch) { s with nir := s.nir || decide (ch = .reg) } := by
    by_cases h : ch = .reg <;> simp [h, setCount]
  unfold debFire
  simp only [hf, trigger_setCount]
  cases p.DEB_REARM <;> simp

/-- All a debounce step can do (44_debouncer.md R273). -/
theorem debStep_cases (ch : Channel) (bad : Bool) :
    (bad = false ∧ debStep p ch bad s = setCount ch (s.debCnt.get ch - 1) s) ∨
    (bad = true ∧ s.debCnt.get ch + 1 < p.DEB_N.get ch ∧
      debStep p ch bad s = setCount ch (s.debCnt.get ch + 1) s) ∨
    (bad = true ∧ s.debCnt.get ch + 1 = p.DEB_N.get ch ∧
      debStep p ch bad s =
        setCount ch (if p.DEB_REARM = .holdBelow then p.DEB_N.get ch - 1 else p.DEB_N.get ch)
          (trigger p (channelBit ch) { s with nir := s.nir || decide (ch = .reg) })) ∨
    (bad = true ∧ p.DEB_N.get ch ≤ s.debCnt.get ch ∧ debStep p ch bad s = s) := by
  unfold debStep
  cases bad
  · exact .inl ⟨rfl, by simp⟩
  · right
    by_cases h1 : s.debCnt.get ch < p.DEB_N.get ch
    · by_cases h2 : s.debCnt.get ch + 1 = p.DEB_N.get ch
      · refine .inr (.inl ⟨rfl, h2, ?_⟩)
        simp only [if_true, if_pos h1, if_pos h2, debFire_eq]
      · refine .inl ⟨rfl, by omega, ?_⟩
        simp only [if_true, if_pos h1, if_neg h2]
    · exact .inr (.inr ⟨rfl, by omega, by simp [h1]⟩)

/-- A debounce step latches at most the bit of its channel. -/
theorem debStep_fault (ch : Channel) (bad : Bool) :
    (debStep p ch bad s).fault = if debFires p ch bad s then s.fault ||| channelBit ch else s.fault := by
  have hb : channelBit ch &&& allFaults = channelBit ch := by cases ch <;> decide
  obtain ⟨h, he⟩ | ⟨h, h1, he⟩ | ⟨h, h1, he⟩ | ⟨h, h1, he⟩ := debStep_cases p s ch bad
  · rw [he]
    simp [h, debFires]
  · rw [he]
    simp [h, debFires, Nat.ne_of_lt h1]
  · rw [he]
    simp [h, debFires, h1, hb]
  · rw [he]
    have : ¬ s.debCnt.get ch + 1 = p.DEB_N.get ch := by omega
    simp [h, debFires, this]

/-- A fuse step is a debounce step of the gated observation (44_debouncer.md R276). -/
theorem fuseStep_eq (ch : Channel) (bad : Bool) :
    fuseStep p ch bad s = debStep p ch (bad && !(p.FUSE_TRANSIENT_GATE && s.transient)) s := rfl

/-- The count of a debounce channel after one observation (44_debouncer.md R273). -/
def nextCount (ch : Channel) (bad : Bool) (c : Nat) : Nat :=
  if bad = false then c - 1
  else if c + 1 < p.DEB_N.get ch then c + 1
  else if c + 1 = p.DEB_N.get ch then (if p.DEB_REARM = .holdBelow then p.DEB_N.get ch - 1 else p.DEB_N.get ch)
  else c

/-- A debounce step moves the counter of its own channel, and no other counter. -/
theorem debStep_debCnt (ch : Channel) (bad : Bool) :
    (debStep p ch bad s).debCnt = s.debCnt.set ch (nextCount p ch bad (s.debCnt.get ch)) := by
  have keep : s.debCnt = s.debCnt.set ch (s.debCnt.get ch) := by cases ch <;> rfl
  obtain ⟨rfl, he⟩ | ⟨rfl, h, he⟩ | ⟨rfl, h, he⟩ | ⟨rfl, h, he⟩ := debStep_cases p s ch bad
  · simp [he, nextCount, setCount]
  · simp [he, nextCount, setCount, h]
  · simp [he, nextCount, setCount, h]
  · have h1 : ¬ s.debCnt.get ch + 1 < p.DEB_N.get ch := by omega
    have h2 : ¬ s.debCnt.get ch + 1 = p.DEB_N.get ch := by omega
    simp [he, nextCount, h1, h2, ← keep]

theorem debFires_eq (ch : Channel) (bad : Bool) :
    debFires p ch bad s = (bad && decide (s.debCnt.get ch + 1 = p.DEB_N.get ch)) := by
  cases bad <;> simp [debFires, beq_eq_decide]

/-- A debounce step that does not fire moves its counter and nothing else. -/
theorem debStep_of_not_fires {ch : Channel} {bad : Bool} (h : debFires p ch bad s = false) :
    debStep p ch bad s = setCount ch (nextCount p ch bad (s.debCnt.get ch)) s := by
  have hn := debStep_debCnt p s ch bad
  obtain ⟨rfl, he⟩ | ⟨rfl, hc, he⟩ | ⟨rfl, hc, he⟩ | ⟨rfl, hc, he⟩ := debStep_cases p s ch bad
  · rw [he] at hn ⊢
    rw [setCount, setCount, ← hn]
    rfl
  · rw [he] at hn ⊢
    rw [setCount, setCount, ← hn]
    rfl
  · simp [debFires, hc] at h
  · rw [he] at hn ⊢
    rw [setCount, ← hn]

/-- Bit `k` of FAULT after a debounce step. -/
theorem debStep_bit (ch : Channel) (bad : Bool) (k : Nat) :
    (debStep p ch bad s).fault.getLsbD k =
      (s.fault.getLsbD k || (debFires p ch bad s && (channelBit ch).getLsbD k)) := by
  rw [debStep_fault]
  split <;> simp_all

/-! ## Causes raised one after another -/

/-- Whether raising the causes `r` in `s` switches the load off. -/
def quenches (s : State) (r : FaultBits) : Bool := r != 0 && (s.fault ||| r) &&& s.faultMask != 0

/-- What a run of `trigger`s of the causes `r`, from `s`, leaves in the registers the next of them reads. -/
structure Raised (s : State) (r : FaultBits) (t : State) : Prop where
  fault : t.fault = s.fault ||| r
  mask : t.faultMask = s.faultMask
  enabled : t.enabled = (s.enabled && !quenches s r)
  transient : t.transient = (s.transient && !(s.enabled && quenches s r))

/-- Nothing raised yet. -/
theorem Raised.none : Raised s 0 s := by constructor <;> simp [quenches]

/-- One more `trigger`. -/
theorem Raised.trigger {s t : State} {r : FaultBits} (h : Raised s r t) {b : FaultBits} (hb : b &&& allFaults = b)
    (h0 : b ≠ 0) : Raised s (r ||| b) (trigger p b t) := by
  have hz : (r ||| b) ≠ 0 := by
    intro hz; exact h0 (BitVec.or_eq_zero_iff.mp hz).2
  have hq : quenches s r = true → quenches s (r ||| b) = true := by
    simp only [quenches, Bool.and_eq_true, bne_iff_ne]
    rintro ⟨-, hq⟩
    refine ⟨hz, fun hc => hq ?_⟩
    rw [← BitVec.or_assoc, BitVec.and_or_distrib_right] at hc
    exact (BitVec.or_eq_zero_iff.mp hc).1
  have hm : ((t.fault ||| b) &&& t.faultMask != 0) = quenches s (r ||| b) := by
    rw [h.fault, h.mask, BitVec.or_assoc, quenches, bne_iff_ne.mpr hz, Bool.true_and]
  constructor
  · simp [h.fault, hb, BitVec.or_assoc]
  · simp [h.mask]
  · rw [trigger_eq_checkFaults, checkFaults_enabled, hb]
    simp only [faultCondition, maskedFaults]
    rw [hm, h.enabled]
    cases hx : quenches s r <;> simp_all
  · rw [trigger_eq_checkFaults, checkFaults_transient, hb]
    simp only [faultCondition, maskedFaults]
    rw [hm, h.transient, h.enabled]
    cases hx : quenches s r <;> cases hy : quenches s (r ||| b) <;> cases s.transient <;> cases s.enabled <;> simp_all

/-- Only those four registers count. -/
theorem Raised.of_eq {s t u : State} {r : FaultBits} (h : Raised s r t) (h1 : u.fault = t.fault)
    (h2 : u.faultMask = t.faultMask) (h3 : u.enabled = t.enabled) (h4 : u.transient = t.transient) : Raised s r u :=
  ⟨h1.trans h.fault, h2.trans h.mask, h3.trans h.enabled, h4.trans h.transient⟩

/-- An immediate protection raises its bit when its observation is bad (44_debouncer.md R272). -/
theorem Raised.protectOne {s t : State} {r : FaultBits} (h : Raised s r t) {b : FaultBits} (bad : Bool)
    (hb : b &&& allFaults = b) (h0 : b ≠ 0) : Raised s (r ||| if bad then b else 0) (protectOne p b bad t) := by
  cases bad
  · simpa [Machine.protectOne] using h
  · exact h.trigger p hb h0

/-- A debounce step raises the bit of its channel when it fires, and nothing otherwise (44_debouncer.md R273). -/
theorem Raised.debStep {s t : State} {r : FaultBits} (h : Raised s r t) (ch : Channel) (bad : Bool) :
    Raised s (r ||| if debFires p ch bad t then channelBit ch else 0) (debStep p ch bad t) := by
  have hb : channelBit ch &&& allFaults = channelBit ch := by cases ch <;> decide
  have h0 : channelBit ch ≠ 0 := by cases ch <;> decide
  have hr : r ||| (0 : FaultBits) = r := by simp
  obtain ⟨rfl, he⟩ | ⟨rfl, hc, he⟩ | ⟨rfl, hc, he⟩ | ⟨rfl, hc, he⟩ := debStep_cases p t ch bad
  · have hf : debFires p ch false t = false := rfl
    rw [he, hf]
    simp only [Bool.false_eq_true, if_false, hr]
    exact h.of_eq rfl rfl rfl rfl
  · have hf : debFires p ch true t = false := by simp [debFires, Nat.ne_of_lt hc]
    rw [he, hf]
    simp only [Bool.false_eq_true, if_false, hr]
    exact h.of_eq rfl rfl rfl rfl
  · have hf : debFires p ch true t = true := by simp [debFires, hc]
    rw [he, hf]
    exact ((h.of_eq (u := { t with nir := t.nir || decide (ch = .reg) }) rfl rfl rfl rfl).trigger p hb h0).of_eq
      rfl rfl rfl rfl
  · have hf : debFires p ch true t = false := by
      have : ¬ t.debCnt.get ch + 1 = p.DEB_N.get ch := by omega
      simp [debFires, this]
    rw [he, hf]
    simpa using h

/-- A fuse step keeps the gate `g` the fuse channels of this period read: a gated observation is good and raises
nothing, and a ramp that has ended stays ended (44_debouncer.md R276). -/
theorem fuseStep_gate (ch : Channel) (bad : Bool) {g : Bool} (h : (p.FUSE_TRANSIENT_GATE && s.transient) = g) :
    fuseStep p ch bad s = debStep p ch (bad && !g) s ∧
    (p.FUSE_TRANSIENT_GATE && (fuseStep p ch bad s).transient) = g := by
  have e : fuseStep p ch bad s = debStep p ch (bad && !g) s := by rw [fuseStep_eq, h]
  refine ⟨e, ?_⟩
  rw [e]
  cases g
  · rw [((Raised.none s).debStep p ch (bad && !false)).transient]
    cases hg : p.FUSE_TRANSIENT_GATE <;> cases ht : s.transient <;> simp_all
  · have hs : debStep p ch (bad && !true) s = setCount ch (s.debCnt.get ch - 1) s := by simp [debStep]
    rw [hs]
    exact h

/-- The checks of a period read the fuse gate once, after FAN2 (44_debouncer.md R270, R276). -/
theorem periodChecks_eq (now : Millis) (obs : Obs) {early : State} {g : Bool}
    (he : early = debStep p .fan2 obs.fanBad2 (debStep p .fan1 obs.fanBad1
      (debStep p .sensor obs.sensorBad (protect p obs (wdgCheck p now s)))))
    (hg : (p.FUSE_TRANSIENT_GATE && early.transient) = g) :
    periodChecks p now obs s =
      debStep p .fuse4 (obs.fuseBad4 && !g) (debStep p .fuse3 (obs.fuseBad3 && !g)
        (debStep p .fuse2 (obs.fuseBad2 && !g) (debStep p .fuse1 (obs.fuseBad1 && !g) early))) := by
  have h1 := fuseStep_gate p early .fuse1 obs.fuseBad1 hg
  have h2 := fuseStep_gate p _ .fuse2 obs.fuseBad2 h1.2
  have h3 := fuseStep_gate p _ .fuse3 obs.fuseBad3 h2.2
  have h4 := fuseStep_gate p _ .fuse4 obs.fuseBad4 h3.2
  unfold periodChecks
  simp only [← he]
  rw [h4.1, h3.1, h2.1, h1.1]

/-- The watchdog check leaves an expired load off, with its ramp ended, and changes nothing else that the following
steps read but FAULT (43_fault_enable.md R238). -/
theorem wdgCheck_cases (now : Millis) :
    (wdgExpired p now s = false ∧ wdgCheck p now s = s) ∨
    (wdgExpired p now s = true ∧ wdgCheck p now s = trigger p bitComm (enableFalse p s) ∧
      (wdgCheck p now s).enabled = false ∧ (wdgCheck p now s).transient = false ∧
      (wdgCheck p now s).fault = s.fault ||| bitComm) := by
  unfold wdgCheck
  cases h : wdgExpired p now s
  · exact .inl ⟨rfl, rfl⟩
  · have he : s.enabled = true := by
      simp only [wdgExpired, Bool.and_eq_true] at h
      exact h.1
    refine .inr ⟨rfl, rfl, ?_, ?_, ?_⟩ <;> simp [trigger_eq_checkFaults, he, bitComm, allFaults]

/-! ## Slew tick -/

/-- All a slew tick can do (45_slew_dac.md R292, R294). -/
theorem slewTick_cases :
    (s.slewRun = false ∧ slewTick p s = s) ∨
    (s.slewRun = true ∧ s.dacTarget ≤ s.dacCode + p.SLEW_DELTA ∧ s.dacCode ≤ s.dacTarget + p.SLEW_DELTA ∧
      slewTick p s = { s with dacCode := s.dacTarget, transient := false, slewRun := false }) ∨
    (s.slewRun = true ∧ s.dacTarget > s.dacCode + p.SLEW_DELTA ∧
      slewTick p s = { s with dacCode := s.dacCode + p.SLEW_DELTA }) ∨
    (s.slewRun = true ∧ s.dacTarget + p.SLEW_DELTA < s.dacCode ∧
      slewTick p s = { s with dacCode := s.dacCode - p.SLEW_DELTA }) := by
  have hp := p.slew_delta_pos
  unfold slewTick slewStep
  cases h : s.slewRun
  · exact .inl ⟨rfl, by simp⟩
  · right
    by_cases h1 : s.dacTarget > s.dacCode + p.SLEW_DELTA
    · refine .inr (.inl ⟨rfl, h1, ?_⟩)
      simp only [if_true, if_pos h1]
      rw [if_neg (by omega)]
    · by_cases h2 : s.dacTarget + p.SLEW_DELTA < s.dacCode
      · refine .inr (.inr ⟨rfl, h2, ?_⟩)
        simp only [if_true, if_neg h1, if_pos h2]
        rw [if_neg (by omega)]
      · refine .inl ⟨rfl, by omega, by omega, ?_⟩
        simp [if_neg h1, if_neg h2]

end Sys2Proof.Machine
end

