-- ==== Sys2Proof/Laws/Sparse.lean ====
section
/-! SUPPORT. Sparse lists: read after write, other keys, the rising order. -/

namespace Sys2Proof.Machine

variable {α : Type}

@[simp] theorem lookupAt_insertAt_same (l : List (Nat × α)) (a : Nat) (v : α) :
    lookupAt (insertAt l a v) a = some v := by
  induction l with
  | nil => simp [insertAt, lookupAt]
  | cons c rest ih =>
    obtain ⟨k, u⟩ := c
    by_cases h1 : a < k
    · simp [insertAt, lookupAt, h1]
    · by_cases h2 : a = k
      · simp [insertAt, lookupAt, h2]
      · simp [insertAt, lookupAt, h1, h2, Ne.symm h2, ih]

theorem lookupAt_insertAt_other (l : List (Nat × α)) {a b : Nat} (v : α) (h : b ≠ a) :
    lookupAt (insertAt l a v) b = lookupAt l b := by
  induction l with
  | nil => simp [insertAt, lookupAt, Ne.symm h]
  | cons c rest ih =>
    obtain ⟨k, u⟩ := c
    by_cases h1 : a < k
    · simp [insertAt, lookupAt, h1, Ne.symm h]
    · by_cases h2 : a = k
      · subst h2
        simp [insertAt, lookupAt, Ne.symm h]
      · simp [insertAt, lookupAt, h1, h2, ih]

theorem lookupAt_eraseAt_other (l : List (Nat × α)) {a b : Nat} (h : b ≠ a) :
    lookupAt (eraseAt l a) b = lookupAt l b := by
  induction l with
  | nil => simp [eraseAt]
  | cons c rest ih =>
    obtain ⟨k, u⟩ := c
    by_cases h1 : k = a
    · subst h1
      simp [eraseAt, lookupAt, Ne.symm h]
    · simp [eraseAt, lookupAt, h1, ih]

theorem lookupAt_of_keysAbove (l : List (Nat × α)) {lo a : Nat} (h : keysAbove lo l = true) (ha : a ≤ lo) :
    lookupAt l a = none := by
  induction l with
  | nil => rfl
  | cons c rest ih =>
    obtain ⟨k, u⟩ := c
    simp only [keysAbove, List.all_cons, Bool.and_eq_true, decide_eq_true_eq] at h
    have hk : k ≠ a := by omega
    simp only [lookupAt, hk, if_false]
    exact ih h.2

theorem lookupAt_eraseAt_same (l : List (Nat × α)) (a : Nat) (h : keysRise l = true) :
    lookupAt (eraseAt l a) a = none := by
  induction l with
  | nil => rfl
  | cons c rest ih =>
    obtain ⟨k, u⟩ := c
    simp only [keysRise, Bool.and_eq_true] at h
    by_cases h1 : k = a
    · subst h1
      simp only [eraseAt, if_true]
      exact lookupAt_of_keysAbove rest h.1 (Nat.le_refl _)
    · simp [eraseAt, lookupAt, h1, ih h.2]

theorem mem_insertAt {l : List (Nat × α)} {a : Nat} {v : α} {c : Nat × α} (h : c ∈ insertAt l a v) :
    c = (a, v) ∨ c ∈ l := by
  induction l with
  | nil => simpa [insertAt] using h
  | cons d rest ih =>
    obtain ⟨k, u⟩ := d
    by_cases h1 : a < k
    · simpa [insertAt, h1] using h
    · by_cases h2 : a = k
      · simp only [insertAt, h2, Nat.lt_irrefl, if_false, if_true, List.mem_cons] at h
        rcases h with h | h
        · exact .inl (by rw [h, h2])
        · exact .inr (List.mem_cons_of_mem _ h)
      · simp only [insertAt, h1, h2, if_false, List.mem_cons] at h
        rcases h with h | h
        · exact .inr (by simp [h])
        · rcases ih h with h | h
          · exact .inl h
          · exact .inr (List.mem_cons_of_mem _ h)

theorem mem_eraseAt {l : List (Nat × α)} {a : Nat} {c : Nat × α} (h : c ∈ eraseAt l a) : c ∈ l := by
  induction l with
  | nil => simp [eraseAt] at h
  | cons d rest ih =>
    obtain ⟨k, u⟩ := d
    by_cases h1 : k = a
    · simp only [eraseAt, h1, if_true] at h
      exact List.mem_cons_of_mem _ h
    · simp only [eraseAt, h1, if_false, List.mem_cons] at h
      rcases h with h | h
      · simp [h]
      · exact List.mem_cons_of_mem _ (ih h)

theorem keysAbove_insertAt {l : List (Nat × α)} {lo a : Nat} {v : α} (h : keysAbove lo l = true) (ha : lo < a) :
    keysAbove lo (insertAt l a v) = true := by
  simp only [keysAbove, List.all_eq_true, decide_eq_true_eq] at h ⊢
  intro c hc
  rcases mem_insertAt hc with rfl | hc
  · exact ha
  · exact h c hc

theorem keysAbove_eraseAt {l : List (Nat × α)} {lo a : Nat} (h : keysAbove lo l = true) :
    keysAbove lo (eraseAt l a) = true := by
  simp only [keysAbove, List.all_eq_true, decide_eq_true_eq] at h ⊢
  exact fun c hc => h c (mem_eraseAt hc)

theorem keysAbove_trans {l : List (Nat × α)} {lo hi : Nat} (h : keysAbove hi l = true) (hl : lo ≤ hi) :
    keysAbove lo l = true := by
  simp only [keysAbove, List.all_eq_true, decide_eq_true_eq] at h ⊢
  exact fun c hc => Nat.lt_of_le_of_lt hl (h c hc)

theorem keysRise_insertAt {l : List (Nat × α)} (a : Nat) (v : α) (h : keysRise l = true) :
    keysRise (insertAt l a v) = true := by
  induction l with
  | nil => rfl
  | cons c rest ih =>
    obtain ⟨k, u⟩ := c
    have h' := h
    simp only [keysRise, Bool.and_eq_true] at h
    by_cases h1 : a < k
    · simp only [insertAt, h1, if_true, keysRise, Bool.and_eq_true]
      refine ⟨?_, h⟩
      simp only [keysAbove, List.all_cons, Bool.and_eq_true, decide_eq_true_eq]
      exact ⟨h1, keysAbove_trans h.1 (Nat.le_of_lt h1)⟩
    · by_cases h2 : a = k
      · simp only [insertAt, h2, Nat.lt_irrefl, if_false, if_true, keysRise, Bool.and_eq_true]
        exact h
      · simp only [insertAt, h1, h2, if_false, keysRise, Bool.and_eq_true]
        exact ⟨keysAbove_insertAt h.1 (by omega), ih h.2⟩

theorem keysRise_eraseAt {l : List (Nat × α)} (a : Nat) (h : keysRise l = true) :
    keysRise (eraseAt l a) = true := by
  induction l with
  | nil => rfl
  | cons c rest ih =>
    obtain ⟨k, u⟩ := c
    simp only [keysRise, Bool.and_eq_true] at h
    by_cases h1 : k = a
    · simpa [eraseAt, h1] using h.2
    · simp only [eraseAt, h1, if_false, keysRise, Bool.and_eq_true]
      exact ⟨keysAbove_eraseAt h.1, ih h.2⟩

end Sys2Proof.Machine
end

