-- ==== Sys2Proof/Laws/Queue.lean ====
section
/-! SUPPORT. The write queue: all a push and a pop can do. -/

namespace Sys2Proof.Machine

variable (p : Params) (s : State)

/-- All a push can do (42_write_queue.md R190). -/
theorem queuePush_cases (w : FrameWord) :
    (s.qFull = true ∧ queuePush p w s = s) ∨
    (s.qFull = false ∧
      queuePush p w s =
        { s with
          qbuf := insertAt s.qbuf s.qWr w, qWr := (s.qWr + 1) % p.QCAP,
          qFull := (s.qWr + 1) % p.QCAP == s.qRd }) := by
  unfold queuePush
  cases s.qFull <;> simp

/-- All a pop can do (42_write_queue.md R191). -/
theorem queuePop_cases :
    (queueEmpty s = true ∧ queuePop p s = none) ∨
    (queueEmpty s = false ∧
      queuePop p s = some (queueSlot s s.qRd, { s with qRd := (s.qRd + 1) % p.QCAP, qFull := false })) := by
  unfold queuePop
  cases queueEmpty s <;> simp

theorem queueSlot_push_same (w : FrameWord) (h : s.qFull = false) :
    queueSlot (queuePush p w s) s.qWr = w := by
  simp [queueSlot, queuePush, h]

theorem queueSlot_push_other (w : FrameWord) {k : Nat} (hk : k ≠ s.qWr) :
    queueSlot (queuePush p w s) k = queueSlot s k := by
  unfold queueSlot queuePush
  cases s.qFull <;> simp [lookupAt_insertAt_other _ _ hk]

end Sys2Proof.Machine
end

