-- ==== Sys2Proof/Laws/Receive.lean ====
section
/-! SUPPORT. The protocol engine: what one received byte does in each protocol state, and all a transmit-empty event
can do. -/

namespace Sys2Proof.Machine

variable (p : Params)

theorem receive_sync {s : State} (h : s.pstate = .sync) : receive p syncByte s = { s with pstate := .addr } := by
  simp [receive, decodeRx, h, rxSync]

theorem receive_sync_other {s : State} {b : Byte} (h : s.pstate = .sync) (hb : b ≠ syncByte) : receive p b s = s := by
  simp [receive, decodeRx, h, hb, rxDiscardSync]

theorem receive_readAddr {s : State} {a : Addr} (h : s.pstate = .addr) :
    receive p (addrByte 1 a) s = { s with rlat := tableLookup p a s, pstate := .thi, txeEn := true } := by
  have h1 : isReadByte (addrByte 1 a) = true := isReadByte_addrByte 1 a
  simp only [receive, decodeRx, h, h1, if_true, byteAddr_addrByte, rxReadAddr]

theorem receive_writeAddr {s : State} {a : Addr} (h : s.pstate = .addr) :
    receive p (addrByte 0 a) s =
      { s with facc := addrByte 0 a ++ s.facc.extractLsb' 0 24, pstate := .dhi } := by
  have h1 : isReadByte (addrByte 0 a) = false := isReadByte_addrByte 0 a
  simp only [receive, decodeRx, h, h1, Bool.false_eq_true, if_true, if_false, byteAddr_addrByte, rxWriteAddr]

theorem receive_dataHi {s : State} (d : Byte) (h : s.pstate = .dhi) :
    receive p d s =
      { s with facc := s.facc.extractLsb' 24 8 ++ d ++ s.facc.extractLsb' 0 16, pstate := .dlo } := by
  simp [receive, decodeRx, h, rxDataHi]

theorem receive_dataLo {s : State} (d : Byte) (h : s.pstate = .dlo) :
    receive p d s =
      { s with facc := s.facc.extractLsb' 16 16 ++ d ++ s.facc.extractLsb' 0 8, pstate := .ck } := by
  simp [receive, decodeRx, h, rxDataLo]

theorem receive_checksum {s : State} (c : Byte) (h : s.pstate = .ck) :
    receive p c s = { queuePush p (s.facc.extractLsb' 8 24 ++ c) s with pstate := .sync } := by
  simp [receive, decodeRx, h, rxChecksum]

theorem receive_transmitting {s : State} (b : Byte) (h : transmitting s.pstate = true) : receive p b s = s := by
  unfold receive
  cases hp : s.pstate <;> simp_all [transmitting, decodeRx, rxDiscardTx]

/-- EV_RX runs the row the decode map gives (30_encoding.md R118). -/
theorem exec_evRx (b : Byte) (s : State) : exec (.evRx b) s = exec (instrOfRx (decodeRx s.pstate b)) s := by
  simp only [exec, execEvRx, receive]
  cases decodeRx s.pstate b <;> rfl

/-- All a transmit-empty event can do (41_protocol_engine.md R168 to R170). -/
theorem transmit_cases (s : State) :
    (s.txeEn = true ∧ s.pstate = .thi ∧
      transmit s = { s with tx := s.tx ++ [s.rlat.extractLsb' 16 8], pstate := .tlo }) ∨
    (s.txeEn = true ∧ s.pstate = .tlo ∧
      transmit s = { s with tx := s.tx ++ [s.rlat.extractLsb' 8 8], pstate := .tck }) ∨
    (s.txeEn = true ∧ s.pstate = .tck ∧
      transmit s = { s with tx := s.tx ++ [s.rlat.extractLsb' 0 8], pstate := .sync, txeEn := false }) ∨
    ((s.txeEn = false ∨ transmitting s.pstate = false) ∧ transmit s = s) := by
  cases ht : s.txeEn <;> cases hp : s.pstate <;>
    simp [transmit, decodeTx, txHi, txLo, txCk, emitTx, ht, hp, transmitting]

end Sys2Proof.Machine
end

