-- ==== Sys2Proof/Laws/Table.lean ====
section
/-! SUPPORT. The register table: read after write, other addresses, the canonical form, and all a publish can do. -/

namespace Sys2Proof.Machine

variable (p : Params)

theorem tableEntry_tableWrite_same (t : List (Nat × Entry)) (a : Addr) (e : Entry) (h : keysRise t = true) :
    tableEntry p (tableWrite p t a e) a = e := by
  unfold tableWrite tableEntry
  by_cases he : e = blankEntry p a
  · simp [he, lookupAt_eraseAt_same t _ h]
  · simp [he]

theorem tableEntry_tableWrite_other (t : List (Nat × Entry)) {a b : Addr} (e : Entry) (h : b ≠ a) :
    tableEntry p (tableWrite p t a e) b = tableEntry p t b := by
  have hn : b.toNat ≠ a.toNat := fun hc => h (BitVec.eq_of_toNat_eq hc)
  unfold tableWrite tableEntry
  by_cases he : e = blankEntry p a
  · simp [he, lookupAt_eraseAt_other t hn]
  · simp [he, lookupAt_insertAt_other t e hn]

theorem Memory.wf_iff (t : List (Nat × Entry)) :
    Memory.wf t p = true ↔
      keysRise t = true ∧ ∀ c ∈ t, c.1 < p.N_REGS ∧ c.2 ≠ blankEntry p (BitVec.ofNat 7 c.1) := by
  simp [Memory.wf]

/-- A table write at a valid address keeps the canonical form. -/
theorem tableWrite_wf (t : List (Nat × Entry)) (a : Addr) (e : Entry) (ha : validAddr p a = true)
    (h : Memory.wf t p = true) : Memory.wf (tableWrite p t a e) p = true := by
  rw [Memory.wf_iff] at h ⊢
  unfold tableWrite
  by_cases he : e = blankEntry p a
  · rw [if_pos he]
    exact ⟨keysRise_eraseAt _ h.1, fun c hc => h.2 c (mem_eraseAt hc)⟩
  · rw [if_neg he]
    refine ⟨keysRise_insertAt _ _ h.1, fun c hc => ?_⟩
    rcases mem_insertAt hc with rfl | hc
    · refine ⟨by simpa [validAddr] using ha, ?_⟩
      simpa using he
    · exact h.2 c hc

/-- All a publish can do (40_register_table.md R142). -/
theorem tablePublish_cases (a : Addr) (v : Data) (s : State) :
    (validAddr p a = true ∧ isMirror p a = false ∧
      tablePublish p a v s =
        { s with table := tableWrite p s.table a { val := v, code := entryCode p a v } }) ∨
    ((validAddr p a = false ∨ isMirror p a = true) ∧ tablePublish p a v s = s) := by
  unfold tablePublish
  cases h1 : validAddr p a <;> cases h2 : isMirror p a <;> simp

/-- A publish keeps the canonical form of the table. -/
theorem tablePublish_wf (a : Addr) (v : Data) (s : State) (h : Memory.wf s.table p = true) :
    Memory.wf (tablePublish p a v s).table p = true := by
  obtain ⟨ha, -, he⟩ | ⟨-, he⟩ := tablePublish_cases p a v s
  · rw [he]
    exact tableWrite_wf p _ _ _ ha h
  · rw [he]
    exact h

theorem resetOf_wf : Memory.wf (State.resetOf p).table p = true := rfl

end Sys2Proof.Machine
end

