-- ==== Sys2Proof/Laws/Step.lean ====
section
/-! SUPPORT. All a step can do: the operations an instruction is made of, so that a property each of them keeps is
kept by every instruction and by every step. -/

namespace Sys2Proof.Machine

theorem next_inj {s t : State} (h : (Host.Outcome.next s : Result) = .next t) : s = t := by
  cases h
  rfl

/-- A receive row is the reception of a byte in the state its rule needs, and no change in any other
(41_protocol_engine.md R160 to R167). -/
theorem rxRow_cases (p : Params) (s : State) :
    (rxSync s = receive p syncByte s ∨ rxSync s = s) ∧
    (∀ a, rxReadAddr p a s = receive p (addrByte 1 a) s ∨ rxReadAddr p a s = s) ∧
    (∀ a, rxWriteAddr a s = receive p (addrByte 0 a) s ∨ rxWriteAddr a s = s) ∧
    (∀ d, rxDataHi d s = receive p d s ∨ rxDataHi d s = s) ∧
    (∀ d, rxDataLo d s = receive p d s ∨ rxDataLo d s = s) ∧
    (∀ c, rxChecksum p c s = receive p c s ∨ rxChecksum p c s = s) := by
  refine ⟨?_, fun a => ?_, fun a => ?_, fun d => ?_, fun d => ?_, fun c => ?_⟩
  · by_cases h : s.pstate = .sync
    · exact .inl (by rw [receive_sync p h, rxSync, if_pos h])
    · exact .inr (by rw [rxSync, if_neg h])
  · by_cases h : s.pstate = .addr
    · exact .inl (by rw [receive_readAddr p h, rxReadAddr, if_pos h])
    · exact .inr (by rw [rxReadAddr, if_neg h])
  · by_cases h : s.pstate = .addr
    · exact .inl (by rw [receive_writeAddr p h, rxWriteAddr, if_pos h])
    · exact .inr (by rw [rxWriteAddr, if_neg h])
  · by_cases h : s.pstate = .dhi
    · exact .inl (by rw [receive_dataHi p d h, rxDataHi, if_pos h])
    · exact .inr (by rw [rxDataHi, if_neg h])
  · by_cases h : s.pstate = .dlo
    · exact .inl (by rw [receive_dataLo p d h, rxDataLo, if_pos h])
    · exact .inr (by rw [rxDataLo, if_neg h])
  · by_cases h : s.pstate = .ck
    · exact .inl (by rw [receive_checksum p c h, rxChecksum, if_pos h])
    · exact .inr (by rw [rxChecksum, if_neg h])

/-- A transmit row is the transmit-empty event in its protocol state, and no change in any other
(41_protocol_engine.md R168 to R170). -/
theorem txRow_cases (s : State) :
    (txHi s = transmit s ∨ txHi s = s) ∧ (txLo s = transmit s ∨ txLo s = s) ∧ (txCk s = transmit s ∨ txCk s = s) := by
  cases ht : s.txeEn <;> cases hp : s.pstate <;> simp [transmit, decodeTx, txHi, txLo, txCk, ht, hp]

/-- All a dequeue can do (42_write_queue.md R191, R198). -/
theorem dequeue_cases (p : Params) (now : Millis) (s : State) :
    (queueEmpty s = true ∧ dequeue p now s = s) ∨
    (queueEmpty s = false ∧
      dequeue p now s =
        dispatch p now (decodeFrame p (queueSlot s s.qRd))
          { s with qRd := (s.qRd + 1) % p.QCAP, qFull := false }) := by
  unfold dequeue
  obtain ⟨h, he⟩ | ⟨h, he⟩ := queuePop_cases p s <;> rw [he]
  · exact .inl ⟨h, rfl⟩
  · exact .inr ⟨h, rfl⟩

variable {P : State → Prop}

theorem receiveAll_keeps {p : Params} (rx : ∀ b s, P s → P (receive p b s)) (bytes : List Byte) :
    ∀ s, P s → P (receiveAll p bytes s) := by
  induction bytes with
  | nil => exact fun _ h => h
  | cons b rest ih => exact fun s h => ih _ (rx b s h)

/-- What every receive, transmit, publish, pop, dispatch, period, sample, slew tick, set-ready and reset keeps, every
instruction keeps. -/
theorem exec_keeps
    (rx : ∀ b s, P s → P (receive Config.params b s)) (tx : ∀ s, P s → P (transmit s))
    (pub : ∀ a v s, P s → P (tablePublish Config.params a v s))
    (pop : ∀ s, queueEmpty s = false → P s → P { s with qRd := (s.qRd + 1) % Config.params.QCAP, qFull := false })
    (run : ∀ now c s, P s → P (dispatch Config.params now c s))
    (per : ∀ now v i obs s, P s → P (period Config.params now v i obs s))
    (smp : ∀ v i s, P s → P (sample Config.params v i s)) (slew : ∀ s, P s → P (slewTick Config.params s))
    (rdy : ∀ r s, P s → P (setReady r s)) (rst : ∀ s, P s → P (resetBlock Config.params s))
    (i : Instr) (s t : State) (h : exec i s = .next t) (hs : P s) : P t := by
  have eq : ∀ u v : State, u = v ∨ u = s → P v → P u := by
    rintro u v (rfl | rfl) hv
    · exact hv
    · exact hs
  obtain ⟨r1, r2, r3, r4, r5, r6⟩ := rxRow_cases Config.params s
  obtain ⟨t1, t2, t3⟩ := txRow_cases s
  cases i <;> obtain rfl := next_inj h
  case sync => exact eq _ _ r1 (rx _ _ hs)
  case rxDiscardSync b => exact hs
  case readAddr a => exact eq _ _ (r2 a) (rx _ _ hs)
  case writeAddr a => exact eq _ _ (r3 a) (rx _ _ hs)
  case dataHi d => exact eq _ _ (r4 d) (rx _ _ hs)
  case dataLo d => exact eq _ _ (r5 d) (rx _ _ hs)
  case checksum c => exact eq _ _ (r6 c) (rx _ _ hs)
  case rxDiscardTx b => exact hs
  case txHi => exact eq _ _ t1 (tx _ hs)
  case txLo => exact eq _ _ t2 (tx _ hs)
  case txCk => exact eq _ _ t3 (tx _ hs)
  case writeFrame a d c => exact receiveAll_keeps rx _ _ hs
  case readFrame a => exact tx _ (tx _ (tx _ (receiveAll_keeps rx _ _ hs)))
  case wrEnable d now => exact run now (.enable d) _ hs
  case wrMode d => exact run 0 (.mode d) _ hs
  case wrSpCc d => exact run 0 (.spCc d) _ hs
  case wrSpCv d => exact run 0 (.spCv d) _ hs
  case wrSpCr d => exact run 0 (.spCr d) _ hs
  case wrSpCp d => exact run 0 (.spCp d) _ hs
  case wrFaultClear d => exact run 0 (.faultClear d) _ hs
  case wrFaultMask d => exact run 0 (.faultMask d) _ hs
  case wrWdg d now => exact run now (.wdg d) _ hs
  case wrStatus d => exact run 0 (.status d) _ hs
  case wrExternal a d => exact run 0 (.external a d) _ hs
  case wrBadCode a d c => exact run 0 (.badCode a d c) _ hs
  case wrInvalidAddr a d => exact run 0 (.invalidAddr a d) _ hs
  case evRx b => exact rx _ _ hs
  case evTxe => exact tx _ hs
  case evPublish a v => exact pub _ _ _ hs
  case evDequeue now =>
    obtain ⟨-, he⟩ | ⟨hq, he⟩ := dequeue_cases Config.params now s <;> rw [he]
    · exact hs
    · exact run _ _ _ (pop _ hq hs)
  case evPeriod now v c obs => exact per _ _ _ _ _ hs
  case evSample v c => exact smp _ _ _ hs
  case evSlewTick => exact slew _ hs
  case evSetReady r => exact rdy _ _ hs
  case evReset => exact rst _ hs

/-- All a step can do: wait, or run the next stimulus's instruction. -/
theorem step_cases (s : State) :
    (s.inbox = [] ∧ step s = .next s) ∨
    (∃ stim rest, s.inbox = stim :: rest ∧
      step s = exec (decodeStimulus stim).1 (driftStats { s with inbox := (decodeStimulus stim).2 ++ rest })) := by
  cases h : s.inbox with
  | nil => exact .inl ⟨rfl, by simp [step, fetch, h]⟩
  | cons stim rest => exact .inr ⟨stim, rest, rfl, by simp [step, fetch, h]⟩

/-- What every instruction keeps, and the fetch keeps, every step keeps. -/
theorem step_keeps (run : ∀ i s t, exec i s = .next t → P s → P t)
    (fetched : ∀ s inbox, P s → P (driftStats { s with inbox := inbox }))
    (s t : State) (h : step s = .next t) (hs : P s) : P t := by
  obtain ⟨-, he⟩ | ⟨stim, rest, -, he⟩ := step_cases s <;> rw [he] at h
  · exact next_inj h ▸ hs
  · exact run _ _ _ h (fetched _ _ hs)

end Sys2Proof.Machine
end

