-- ==== Sys2Proof/Tests/Slice0.lean ====
section
/-! SUPPORT. Tests: the refusals of WellFormed, the decoding of words written out from 30_encoding.md, single steps with
the values of 95_test_vectors.md, the host's entry points, and for every statement with hypotheses a witness that meets
them. Expected values come from the spec's tables, not from the model. -/

namespace Sys2Proof.Tests

open Sys2Proof.Machine

/-- The example parameter set P0 of 95_test_vectors.md. -/
def P0 : Params := { QCAP := 4 }

/-- P0 with the CRC fault on a mismatch. -/
def P0crc : Params := { QCAP := 4, CRC_FAULT_ON_MISMATCH := true }

/-- R0, the reset state under P0. -/
def r0 : State := State.resetOf P0

/-- R0+ready. -/
def ready0 : State := { r0 with ready := true }

/-- The state an instruction answers. -/
def after (r : Result) : State :=
  match r with
  | .next t => t
  | .fault _ => r0
  | .refused _ => r0

/-- An enabled load in mode `m` with setpoint `x` and integrator `n`, no ramp. -/
def running (m : Mode) (x : Nat) (n : Int) : State :=
  { ready0 with
    enabled := true, pwrEn0 := true, pwrEn1 := true, afeCont := m != .cc, mode := m,
    sp := { cc := x, cv := x, cr := x, cp := x }, integ := n, dacCode := 3000, dacTarget := 3000 }

/-- No bad observation. -/
def quiet : Obs :=
  { otp := false, ocp := false, opp := false, ext := false, sensorBad := false, fanBad1 := false, fanBad2 := false,
    fuseBad1 := false, fuseBad2 := false, fuseBad3 := false, fuseBad4 := false }

/-! ## WellFormed refuses an ill-formed term of each checked row -/

theorem test_wf_rxDiscardSync : (Instr.rxDiscardSync 0xFF).wellFormed P0 = false := by decide

theorem test_wf_wrExternal_block : (Instr.wrExternal 0x04 0).wellFormed P0 = false := by decide

theorem test_wf_wrExternal_invalid : (Instr.wrExternal 0x20 0).wellFormed P0 = false := by decide

theorem test_wf_wrBadCode : (Instr.wrBadCode 0x05 0x1234 0xDC).wellFormed P0 = false := by decide

theorem test_wf_wrInvalidAddr : (Instr.wrInvalidAddr 0x1F 0).wellFormed P0 = false := by decide

theorem test_wf_accepts :
    (Instr.rxDiscardSync 0xFE).wellFormed P0 = true ∧ (Instr.wrExternal 0x1F 0).wellFormed P0 = true ∧
    (Instr.wrBadCode 0x05 0x1234 0xDD).wellFormed P0 = true ∧ (Instr.wrInvalidAddr 0x20 0).wellFormed P0 = true := by
  decide

/-! ## Decoding of written-out words -/

/-- 30_encoding.md R118, the rx_byte rows. -/
theorem test_decode_rx :
    decode (.rxByte .sync 0b11111111) P0 = .ok .sync ∧
    decode (.rxByte .sync 0b11111110) P0 = .ok (.rxDiscardSync 0xFE) ∧
    decode (.rxByte .addr 0b10010000) P0 = .ok (.readAddr 0x10) ∧
    decode (.rxByte .addr 0b00000101) P0 = .ok (.writeAddr 0x05) ∧
    decode (.rxByte .dhi 0b00010010) P0 = .ok (.dataHi 0x12) ∧
    decode (.rxByte .dlo 0b00110100) P0 = .ok (.dataLo 0x34) ∧
    decode (.rxByte .ck 0b11011100) P0 = .ok (.checksum 0xDC) ∧
    decode (.rxByte .tlo 0b11111111) P0 = .ok (.rxDiscardTx 0xFF) :=
  ⟨rfl, rfl, rfl, rfl, rfl, rfl, rfl, rfl⟩

/-- 30_encoding.md R118, the tx_byte rows; no row sends in S_SYNC. -/
theorem test_decode_tx :
    decode (.txByte .thi) P0 = .ok .txHi ∧ decode (.txByte .tlo) P0 = .ok .txLo ∧
    decode (.txByte .tck) P0 = .ok .txCk ∧ decode (.txByte .sync) P0 = .error .notTransmitting :=
  ⟨rfl, rfl, rfl, rfl⟩

/-- 30_encoding.md R113, R115: `W 05, 1234` and `R 10`, and three runs that are no command. -/
theorem test_decode_wire :
    decode (.wire [0b11111111, 0b00000101, 0b00010010, 0b00110100, 0b11011100]) P0
      = .ok (.writeFrame 0x05 0x1234 0xDC) ∧
    decode (.wire [0b11111111, 0b10010000]) P0 = .ok (.readFrame 0x10) ∧
    decode (.wire [0xFF, 0x05, 0x12, 0x34]) P0 = .error .writeLength ∧
    decode (.wire [0xFF, 0x90, 0x00]) P0 = .error .readLength ∧
    decode (.wire [0xFE, 0x90]) P0 = .error .noSyncByte :=
  ⟨rfl, rfl, rfl, rfl, rfl⟩

/-- 30_encoding.md R119, the frame_word rows, with the codes of 95_test_vectors.md. -/
theorem test_decode_frame :
    decode (.frameWord 9 0x040001FA) P0 = .ok (.wrEnable 1 9) ∧
    decode (.frameWord 9 0x060001F8) P0 = .ok (.wrMode 1) ∧
    decode (.frameWord 9 0x0703E813) P0 = .ok (.wrSpCc 1000) ∧
    decode (.frameWord 9 0x082EE039) P0 = .ok (.wrSpCv 12000) ∧
    decode (.frameWord 9 0x09125CB8) P0 = .ok (.wrSpCr 4700) ∧
    decode (.frameWord 9 0x0A61A83C) P0 = .ok (.wrSpCp 25000) ∧
    decode (.frameWord 9 0x020040BD) P0 = .ok (.wrFaultClear 0x0040) ∧
    decode (.frameWord 9 0x033EFF3D) P0 = .ok (.wrFaultMask 0x3EFF) ∧
    decode (.frameWord 9 0x05A5A5FA) P0 = .ok (.wrWdg 0xA5A5 9) ∧
    decode (.frameWord 9 0x01FFFFFE) P0 = .ok (.wrStatus 0xFFFF) ∧
    decode (.frameWord 9 0x1000C827) P0 = .ok (.wrExternal 0x10 200) ∧
    decode (.frameWord 9 0x051234DD) P0 = .ok (.wrBadCode 0x05 0x1234 0xDD) ∧
    decode (.frameWord 9 0x7F1234A6) P0 = .ok (.wrInvalidAddr 0x7F 0x1234) ∧
    decode (.frameWord 9 0x85123400) P0 = .error .directionBitSet :=
  ⟨rfl, rfl, rfl, rfl, rfl, rfl, rfl, rfl, rfl, rfl, rfl, rfl, rfl, rfl⟩

/-- 30_encoding.md R120, the event rows. -/
theorem test_decode_event :
    decode (.event (.rx 0x12)) P0 = .ok (.evRx 0x12) ∧ decode (.event .txe) P0 = .ok .evTxe ∧
    decode (.event (.publish 0x10 0x1234)) P0 = .ok (.evPublish 0x10 0x1234) ∧
    decode (.event (.dequeue 100)) P0 = .ok (.evDequeue 100) ∧
    decode (.event (.period 100 12000 1000 quiet)) P0 = .ok (.evPeriod 100 12000 1000 quiet) ∧
    decode (.event (.sample 11000 2000)) P0 = .ok (.evSample 11000 2000) ∧
    decode (.event .slewTick) P0 = .ok .evSlewTick ∧ decode (.event (.setReady true)) P0 = .ok (.evSetReady true) ∧
    decode (.event .reset) P0 = .ok .evReset :=
  ⟨rfl, rfl, rfl, rfl, rfl, rfl, rfl, rfl, rfl⟩

/-! ## The host's entry points -/

theorem test_tableWord_rows :
    decodeTableWord 8 0xFF = some .sync ∧ decodeTableWord 8 0x80 = some (.readAddr 0) ∧
    decodeTableWord 8 0x05 = some (.writeAddr 5) ∧ decodeTableWord 16 0xFF90 = some (.readFrame 0x10) ∧
    decodeTableWord 16 0xFF05 = some (.writeFrame 5 0 0) ∧ decodeTableWord 40 0xFF051234DC = some (.writeFrame 5 0x1234 0xDC) ∧
    decodeTableWord 32 0 = some (.wrBadCode 0 0 0) :=
  ⟨rfl, rfl, rfl, rfl, rfl, rfl, rfl⟩

theorem test_fetchWord_runs_frame :
    step (State.reset.withFetchWord 32 0) =
      exec (.evDequeue 0) (driftStats { placeFrame Config.params 0 State.reset with inbox := [] }) := rfl

theorem test_fetchWord_runs_read :
    step (State.reset.withFetchWord 16 0xFF90) = exec (.readFrame 0x10) (driftStats State.reset) := rfl

/-! ## The integrity code (95_test_vectors.md L1.1, L1.2, L2.1) -/

theorem test_ck8 :
    ck8 0x05 0x12 0x34 = 0xDC ∧ ck8 0x04 0x00 0x01 = 0xFA ∧ ck8 0x07 0x03 0xE8 = 0x13 ∧ ck8 0x00 0x00 0x00 = 0xFF ∧
    ck8 0x7F 0x12 0x34 = 0xA6 ∧ entryCode P0 0x10 0x1234 = 0x49 := by
  decide

theorem test_frameOk :
    frameOk 0x051234DC = true ∧ frameOk 0x053234DC = false ∧ frameOk 0x051235DC = false ∧
    frameOk 0x041234DC = false ∧ frameOk 0x00000000 = false ∧ frameOk 0x000000FF = true := by
  decide

/-! ## Single steps (95_test_vectors.md L1.4 to L3.7) -/

theorem test_sync : (after (execSync r0)).pstate = .addr := rfl

theorem test_rxDiscardSync : (after (execRxDiscardSync 0x12 r0)).pstate = .sync := rfl

/-- 0xFF as the address byte reads address 127, whose reply is three zero bytes. -/
theorem test_readAddr_127 :
    (after (execReadAddr 0x7F { r0 with pstate := .addr } P0)).rlat = 0x000000 ∧
    (after (execReadAddr 0x7F { r0 with pstate := .addr } P0)).txeEn = true := by
  decide

theorem test_readAddr_status :
    (after (execReadAddr 0x01 { ready0 with pstate := .addr } P0)).rlat = 0x00047A := by decide

theorem test_writeAddr : (after (execWriteAddr 0x05 { r0 with pstate := .addr })).facc = 0x05000000 := by decide

theorem test_dataHi : (after (execDataHi 0x12 { r0 with pstate := .dhi, facc := 0x05000000 })).facc = 0x05120000 := by
  decide

theorem test_dataLo : (after (execDataLo 0x34 { r0 with pstate := .dlo, facc := 0x05120000 })).facc = 0x05123400 := by
  decide

theorem test_checksum :
    (after (execChecksum 0xDC { r0 with pstate := .ck, facc := 0x05123400 } P0)).qbuf = [(0, 0x051234DC)] := by decide

theorem test_checksum_full :
    (after (execChecksum 0xDC { r0 with pstate := .ck, qFull := true } P0)).qbuf = [] ∧
    (after (execChecksum 0xDC { r0 with pstate := .ck, qFull := true } P0)).pstate = .sync := by
  decide

theorem test_rxDiscardTx : (after (execRxDiscardTx 0xFF { r0 with pstate := .thi })).pstate = .thi := rfl

theorem test_tx_bytes :
    (after (execTxHi { r0 with pstate := .thi, txeEn := true, rlat := 0x123449 })).tx = [0x12] ∧
    (after (execTxLo { r0 with pstate := .tlo, txeEn := true, rlat := 0x123449 })).tx = [0x34] ∧
    (after (execTxCk { r0 with pstate := .tck, txeEn := true, rlat := 0x123449 })).tx = [0x49] := by
  decide

theorem test_txCk_ends : (after (execTxCk { r0 with pstate := .tck, txeEn := true })).txeEn = false := rfl

theorem test_writeFrame : (after (execWriteFrame 0x05 0x1234 0xDC r0 P0)).qbuf = [(0, 0x051234DC)] := by decide

/-- A frame inside an old one: FF, 05 and 12 end the old frame, 34 and DC are discarded. -/
theorem test_writeFrame_inside :
    (after (execWriteFrame 0x05 0x1234 0xDC { r0 with pstate := .dhi, facc := 0x05000000 } P0)).qbuf
      = [(0, 0x05FF0512)] ∧
    (after (execWriteFrame 0x05 0x1234 0xDC { r0 with pstate := .dhi } P0)).pstate = .sync := by
  decide

theorem test_readFrame_zero : (after (execReadFrame 0x00 r0 P0)).tx = [0x00, 0x00, 0x7F] := by decide

theorem test_readFrame_mask : (after (execReadFrame 0x03 r0 P0)).tx = [0x3F, 0xFF, 0xBC] := by decide

/-- L1.7: the enable dequeue starts the ramp from 4000 to 3000 with STATUS 0x0005. -/
theorem test_wrEnable :
    (after (execWrEnable 1 100 { ready0 with sp := { ready0.sp with cc := 1000 } } P0)).dacCode = 4000 ∧
    (after (execWrEnable 1 100 { ready0 with sp := { ready0.sp with cc := 1000 } } P0)).dacTarget = 3000 ∧
    (after (execWrEnable 1 100 { ready0 with sp := { ready0.sp with cc := 1000 } } P0)).status = 0x0005 := by
  decide

theorem test_wrEnable_refused : after (execWrEnable 1 0 r0 P0) = r0 := rfl

/-- L1.9: a mode switch while enabled. -/
theorem test_wrMode :
    (after (execWrMode 1 (running .cc 1000 0) P0)).status = 0x0004 ∧
    (after (execWrMode 1 (running .cc 1000 0) P0)).mode = .cv ∧
    (after (execWrMode 1 (running .cc 1000 0) P0)).dacCode = 4095 := by
  decide

theorem test_wrMode_ignored : (after (execWrMode 4 (running .cv 12000 62) P0)).integ = 62 := rfl

theorem test_wrSpCc : (after (execWrSpCc 0x03E8 r0 P0)).sp.cc = 1000 := rfl

theorem test_wrSpCc_ramp :
    (after (execWrSpCc 1000 { running .cc 0 0 with dacCode := 4000, dacTarget := 4000 } P0)).transient = true := by
  decide

theorem test_wrSpCv_low : (after (execWrSpCv 999 r0 P0)).sp.cv = 1000 := rfl

theorem test_wrSpCr : (after (execWrSpCr 0x125C r0 P0)).sp.cr = 4700 := rfl

theorem test_wrSpCp_high : (after (execWrSpCp 0xFFFF r0 P0)).sp.cp = 60000 := rfl

theorem test_wrFaultClear :
    (after (execWrFaultClear 0x0040 { ready0 with fault := 0x0040, faultActive := true, faultLed := true } P0)).status
      = 0x0004 := by
  decide

theorem test_wrFaultMask :
    (after (execWrFaultMask 0x0000 r0 P0)).faultMask = 0x000C ∧ (after (execWrFaultMask 0x0040 r0 P0)).faultMask = 0x004C ∧
    (after (execWrFaultMask 0xFFFF r0 P0)).faultMask = 0x3FFF := by
  decide

theorem test_wrWdg :
    (after (execWrWdg 0xA5A5 2500 r0 P0)).wdgLast = 2500 ∧ (after (execWrWdg 0x0000 4000 r0 P0)).wdgLast = 0 := by decide

theorem test_wrStatus : after (execWrStatus 0xFFFF r0) = r0 := rfl

theorem test_wrExternal : (after (execWrExternal 0x10 0x00C8 r0)).wrOut = [(0x10, 0x00C8)] := rfl

theorem test_wrBadCode :
    after (execWrBadCode 0x05 0x1234 0xDD r0 P0) = r0 ∧
    (after (execWrBadCode 0x05 0x1234 0xDD r0 P0crc)).status = 0x0002 := by
  decide

theorem test_wrInvalidAddr : (after (execWrInvalidAddr 0x7F 0x1234 r0)).wrOut = [] := rfl

theorem test_evRx_junk : after (execEvRx 0x34 r0 P0) = r0 := rfl

theorem test_evTxe_gated : after (execEvTxe { r0 with pstate := .thi }) = { r0 with pstate := .thi } := rfl

theorem test_evPublish :
    (after (execEvPublish 0x10 0x1234 r0 P0)).table = [(0x10, { val := 0x1234, code := 0x49 })] := by decide

theorem test_evPublish_refused :
    (after (execEvPublish 0x01 0xFFFF r0 P0)).table = [] ∧ (after (execEvPublish 0x40 1 r0 P0)).table = [] := by decide

theorem test_evDequeue :
    (after (execEvDequeue 100 { r0 with qbuf := [(0, 0x1000C827)], qWr := 1 } P0)).wrOut = [(0x10, 0x00C8)] ∧
    (after (execEvDequeue 100 { r0 with qbuf := [(0, 0x1000C827)], qWr := 1 } P0)).qRd = 1 := by
  decide

theorem test_evDequeue_empty : after (execEvDequeue 0 r0 P0) = r0 := rfl

/-- L1.8: an over-current disables within the period. -/
theorem test_evPeriod_ocp :
    (after (execEvPeriod 100 11900 2000 { quiet with ocp := true } (running .cv 12000 124) P0)).status = 0x0006 ∧
    (after (execEvPeriod 100 11900 2000 { quiet with ocp := true } (running .cv 12000 124) P0)).dacCode = 4095 := by
  decide

/-- L2.5: REG unmasked fires and sets NIR; the load stays enabled. -/
theorem test_evPeriod_reg :
    (after (execEvPeriod 300 11000 2000 quiet
      { running .cv 12000 0 with faultMask := 0x3EFF, debCnt := { r0.debCnt with reg := 2 } } P0)).status = 0x000D := by
  decide

/-- L2.7: truncation toward zero, not floor. -/
theorem test_evSample_trunc :
    (after (execEvSample 12007 0 (running .cv 12000 100) P0)).dacCode = 3996 ∧
    (after (execEvSample 12007 0 (running .cv 12000 100) P0)).integ = 100 := by
  decide

theorem test_evSample_cp :
    (after (execEvSample 12000 3000 (running .cp 25000 0) P0)).dacCode = 658 := by decide

/-- L2.6: up with a short last step, down by the full step. -/
theorem test_evSlewTick :
    (after (execEvSlewTick { r0 with slewRun := true, transient := true, dacCode := 3500, dacTarget := 3600 } P0)).dacCode
      = 3600 ∧
    (after (execEvSlewTick { r0 with slewRun := true, transient := true, dacCode := 4000, dacTarget := 3000 } P0)).dacCode
      = 3750 := by
  decide

theorem test_evSetReady : (after (execEvSetReady true r0)).status = 0x0004 := by decide

theorem test_evReset : (after (execEvReset (running .cv 12000 124) P0)).dacCode = 4095 := rfl

/-- L2.5: measured quantities. -/
theorem test_measured :
    measured P0 .cr 12000 7000 = 1714 ∧ measured P0 .cr 12000 0 = 4294967295 ∧ measured P0 .cp 12000 3000 = 36000 ∧
    measured P0 .cp 4294967295 4294967295 = 18446744065119617 := by
  decide

/-! ## Witnesses: every statement's hypotheses are met, clause by clause -/

/-- The reset state of the block itself. -/
def base : State := State.reset

/-- An enabled CC load of the block itself that ramps, with every cause unmasked but none latched. -/
def ramping : State :=
  { State.reset with
    faultMask := allFaults, ready := true, enabled := true, pwrEn0 := true, pwrEn1 := true,
    dacTarget := Config.params.DAC_MIN_CODE, dacCode := Config.params.DAC_MIN_CODE }

/-- The block with a masked OTP cause latched. -/
def faulted : State :=
  { State.reset with fault := 0x0004, faultMask := allFaults, faultActive := true, faultLed := true }

theorem witness_SyncByteStartsFrame : base.pstate = .sync ∧ { base with pstate := .addr }.pstate ≠ .sync :=
  ⟨rfl, by decide⟩

theorem witness_DiscardedBytesChangeNothing :
    base.pstate = .sync ∧ (0xFE : Byte) ≠ 0xFF ∧ { base with pstate := .thi }.pstate = .thi ∧
    { base with pstate := .tlo }.pstate = .tlo ∧ { base with pstate := .tck }.pstate = .tck :=
  ⟨rfl, by decide, rfl, rfl, rfl⟩

theorem witness_ReadAddressLatchesReply : { base with pstate := .addr }.pstate = .addr ∧ base.pstate ≠ .addr :=
  ⟨rfl, by decide⟩

theorem witness_WriteBytesFillAccumulator :
    { base with pstate := .addr }.pstate = .addr ∧ { base with pstate := .dhi }.pstate = .dhi ∧
    { base with pstate := .dlo }.pstate = .dlo ∧ base.pstate ≠ .addr ∧ base.pstate ≠ .dhi ∧ base.pstate ≠ .dlo :=
  ⟨rfl, rfl, rfl, by decide, by decide, by decide⟩

theorem witness_ChecksumQueuesOrDropsFrame :
    { base with pstate := .ck }.pstate = .ck ∧ { base with pstate := .ck }.qFull = false ∧
    { base with pstate := .ck, qFull := true }.qFull = true ∧ base.pstate ≠ .ck :=
  ⟨rfl, rfl, rfl, by decide⟩

theorem witness_TransmitEmptySendsLatch :
    { base with pstate := .thi, txeEn := true }.txeEn = true ∧ { base with pstate := .thi, txeEn := true }.pstate = .thi ∧
    { base with pstate := .tlo, txeEn := true }.pstate = .tlo ∧ { base with pstate := .tck, txeEn := true }.pstate = .tck ∧
    base.txeEn = false ∧ base.pstate ≠ .thi ∧ base.pstate ≠ .tlo ∧ base.pstate ≠ .tck :=
  ⟨rfl, rfl, rfl, rfl, rfl, by decide, by decide, by decide⟩

theorem witness_ClosedGatesChangeNothing : base.txeEn = false ∧ base.slewRun = false := ⟨rfl, rfl⟩

theorem witness_ReceivedByteRunsDecodedRow :
    (PState.tck = .thi ∨ PState.tck = .tlo ∨ PState.tck = .tck) ∧ { base with pstate := .thi }.pstate = .thi ∧
    { base with pstate := .tlo }.pstate = .tlo ∧ { base with pstate := .tck }.pstate = .tck :=
  ⟨by decide, rfl, rfl, rfl⟩

theorem witness_WriteFrameIsQueuedAsReceived : base.pstate = .sync ∧ base.qFull = false := ⟨rfl, rfl⟩

theorem witness_ReadFrameAnswersWithEntry : base.pstate = .sync := rfl

theorem witness_EngineLeavesSupervisorAlone :
    (∃ a, Instr.readFrame 0x10 = .readFrame a) ∧ (∃ b, Instr.evRx 0xFF = .evRx b) := ⟨⟨_, rfl⟩, ⟨_, rfl⟩⟩

theorem witness_EngineResynchronises :
    { r0 with pstate := .dhi }.pstate = .dhi ∧ { r0 with pstate := .dlo }.pstate = .dlo ∧
    { r0 with pstate := .ck }.pstate = .ck ∧ { r0 with pstate := .addr }.pstate = .addr ∧
    transmitting PState.tck = true ∧ { r0 with pstate := .tck, txeEn := true }.txeEn = true ∧
    transmitting PState.sync = false :=
  ⟨rfl, rfl, rfl, rfl, rfl, rfl, rfl⟩

theorem witness_IntegrityCodeDetectsErrors : frameOk 0x051234DC = true ∧ 0 < 31 ∧ 30 < 31 := by decide

theorem witness_PublishWritesOneEntry :
    Memory.wf base.table = true ∧ Config.params.ADDR_FAULT_MASK = Config.params.ADDR_FAULT_MASK := ⟨rfl, rfl⟩

theorem witness_StepKeepsTableConsistent :
    { base with inbox := [.event (.publish 0x10 0x1234)] }.TableOk ∧
    ∃ t, step { base with inbox := [.event (.publish 0x10 0x1234)] } = .next t :=
  ⟨⟨rfl, fun _ h => absurd h (List.not_mem_nil), fun _ h => absurd h (List.not_mem_nil)⟩, ⟨_, rfl⟩⟩

theorem witness_QueueIsFifo :
    r0.qRd < P0.QCAP ∧ r0.qWr = r0.qRd ∧ r0.qFull = false ∧ [1, 2, 3, (4 : FrameWord)].length = P0.QCAP := by decide

theorem witness_StepKeepsEngineAndQueue :
    { base with inbox := [.wire 0xFF [0x05, 0x12, 0x34, 0xDC]] }.EngineOk ∧
    { base with inbox := [.wire 0xFF [0x05, 0x12, 0x34, 0xDC]] }.QueueOk ∧
    ∃ t, step { base with inbox := [.wire 0xFF [0x05, 0x12, 0x34, 0xDC]] } = .next t := by
  refine ⟨⟨rfl, rfl⟩, ⟨Config.params.qcap_pos, Config.params.qcap_pos, fun h => absurd h (by decide), rfl,
    fun _ h => absurd h (List.not_mem_nil), fun k hk => ?_⟩, ⟨_, rfl⟩⟩
  have hc : queueCount Config.params { base with inbox := [.wire 0xFF [0x05, 0x12, 0x34, 0xDC]] } = 0 := by
    simp [queueCount, base, State.reset]
  rw [hc] at hk
  exact absurd hk (Nat.not_lt_zero k)

theorem witness_DequeueRunsOldestFrame :
    base.qWr = base.qRd ∧ base.qFull = false ∧ { base with qWr := 1 }.qWr ≠ base.qRd ∧
    { base with qFull := true }.qFull = true :=
  ⟨rfl, rfl, by decide, rfl⟩

/-- Each address of P0, and the two bounds of the free range: 0x00 and 0x1F are external, 0x20 is invalid. -/
theorem witness_DispatchMapFollowsAddress :
    frameOk 0 = false ∧ frameOk (goodFrame 0x20 0) = true ∧ P0.N_REGS ≤ (0x20 : Addr).toNat ∧
    P0.ADDR_ENABLE = 4 ∧ P0.ADDR_STATUS = 1 ∧ (0x1F : Addr).toNat < P0.N_REGS ∧
    (0x1F : Addr) ∉ [P0.ADDR_ENABLE, P0.ADDR_MODE, P0.ADDR_SP_CC, P0.ADDR_SP_CV, P0.ADDR_SP_CR, P0.ADDR_SP_CP,
      P0.ADDR_FAULT, P0.ADDR_FAULT_MASK, P0.ADDR_WDG, P0.ADDR_STATUS] := by
  decide

theorem witness_TriggerLatchesAndDisables :
    (r0.fault ||| (0x0040 &&& 0x3FFF)) &&& r0.faultMask ≠ 0 ∧ (running .cv 12000 0).enabled = true ∧
    r0.enabled = false ∧ (r0.fault ||| (0x4000 &&& 0x3FFF)) &&& r0.faultMask = 0 := by
  decide

theorem witness_FaultClearRemovesWrittenBits :
    (faulted.fault &&& ~~~((0x0002 : Data) &&& 0x3FFF)) &&& faulted.faultMask ≠ 0 ∧
    (faulted.fault &&& ~~~((0x0004 : Data) &&& 0x3FFF)) &&& faulted.faultMask = 0 := by
  decide

theorem witness_FaultMaskWriteEvaluates :
    base.fault &&& ((0 ||| Config.params.NON_MASKABLE) &&& 0x3FFF) = 0 ∧
    faulted.fault &&& (((0xFFFF : Data) ||| Config.params.NON_MASKABLE) &&& 0x3FFF) ≠ 0 := by
  refine ⟨by simp [base, State.reset], fun h => ?_⟩
  have h2 := congrArg (fun x => BitVec.getLsbD x 2) h
  simp only [BitVec.getLsbD_and, BitVec.getLsbD_or] at h2
  rw [show faulted.fault.getLsbD 2 = true from rfl, show ((0xFFFF : Data).getLsbD 2) = true from rfl,
    show ((0x3FFF : Data).getLsbD 2) = true from rfl] at h2
  simp at h2

theorem witness_FaultBitsStayLatched :
    (∃ t, exec .evReset faulted = .next t ∧ t.fault.getLsbD 2 = false) ∧
    (∃ t, exec (.wrFaultClear 0x0004) faulted = .next t ∧ t.fault.getLsbD 2 = false) ∧ faulted.fault.getLsbD 2 = true := by
  refine ⟨⟨_, rfl, rfl⟩, ⟨_, rfl, ?_⟩, by decide⟩
  simp [wrFaultClear, faulted, allFaults]

theorem witness_InterruptEventsLeaveFaultsAlone :
    (∃ a v, Instr.evPublish 0x10 0x1234 = .evPublish a v) ∧ ∃ t, exec (.evPublish 0x10 0x1234) faulted = .next t :=
  ⟨⟨_, _, rfl⟩, ⟨_, rfl⟩⟩

theorem witness_EnableWriteStartsLoadOrChangesNothing :
    (1 : Data) ≠ 0 ∧ { base with ready := true }.enabled = false ∧ { base with ready := true }.ready = true ∧
    { base with ready := true }.fault &&& { base with ready := true }.faultMask = 0 ∧
    { base with ready := true }.mode = .cc ∧ { base with ready := true, mode := .cp }.mode ≠ .cc ∧
    ramping.enabled = true ∧ base.ready = false ∧ faulted.fault &&& faulted.faultMask ≠ 0 :=
  ⟨by decide, rfl, rfl, by simp [base, State.reset], rfl, by decide, rfl, rfl, by decide⟩

theorem witness_ZeroEnableWriteStopsLoad : base.enabled = false ∧ ramping.enabled = true := ⟨rfl, rfl⟩

theorem witness_ModeWriteSwitchesMode :
    (4 : Data).toNat > 3 ∧ (0 : Data).toNat = (modeCode base.mode).toNat ∧ (3 : Data).toNat = (modeCode .cp).toNat ∧
    Mode.cp ≠ base.mode ∧ base.enabled = false ∧ ramping.enabled = true :=
  ⟨by decide, rfl, by decide, by decide, rfl, rfl⟩

theorem witness_CcSetpointRedirectsRamp :
    base.enabled = false ∧ { ramping with mode := .cv }.mode ≠ .cc ∧ ramping.enabled = true ∧ ramping.mode = .cc :=
  ⟨rfl, by decide, rfl, rfl⟩

theorem witness_WatchdogKeyRefreshes :
    Config.params.WDG_KEY = Config.params.WDG_KEY ∧ ~~~Config.params.WDG_KEY ≠ Config.params.WDG_KEY := by
  refine ⟨rfl, fun h => ?_⟩
  have h0 := congrArg (fun x => BitVec.getLsbD x 0) h
  simp at h0

theorem witness_OnlyEnableWriteTurnsLoadOn :
    (∃ t, exec (.wrEnable 1 0) { base with ready := true } = .next t ∧ t.enabled = true) ∧
    { base with ready := true }.enabled = false := by
  refine ⟨⟨_, rfl, ?_⟩, rfl⟩
  have ha : enableAllowed { base with ready := true } = true := by
    simp [enableAllowed, faultCondition, maskedFaults, base, State.reset]
  simp only [wrEnable]
  rw [if_pos (by decide)]
  obtain ⟨h, -⟩ | ⟨-, -, h⟩ | ⟨-, -, h⟩ := enableTrue_cases Config.params { base with ready := true } 0
  · rw [ha] at h
    cases h
  · rw [h]
  · rw [h]

/-- A consistent fault state is reachable by every instruction, here by an enable write that is refused. -/
theorem witness_FaultNeverLeadsToEnabled :
    faulted.FaultOk ∧ (∃ t, exec (.wrEnable 1 0) faulted = .next t) ∧ faulted.enableState = .fault := by
  refine ⟨⟨by decide, ?_, by decide, by decide, by decide, fun h => absurd h (by decide)⟩, ⟨_, rfl⟩, by decide⟩
  have h := Config.params.non_maskable_subset
  rwa [BitVec.and_comm] at h

/-- Every debounced observation bad. -/
def allBad : Obs :=
  { quiet with
    sensorBad := true, fanBad1 := true, fanBad2 := true, fuseBad1 := true, fuseBad2 := true, fuseBad3 := true,
    fuseBad4 := true }

/-- The loaded block with every debounce counter at `n` of its threshold. -/
def counted (n : Nat → Nat) : State :=
  { ramping with debCnt :=
      { sensor := n Config.params.DEB_N.sensor, fan1 := n Config.params.DEB_N.fan1, fan2 := n Config.params.DEB_N.fan2,
        reg := n Config.params.DEB_N.reg, fuse1 := n Config.params.DEB_N.fuse1, fuse2 := n Config.params.DEB_N.fuse2,
        fuse3 := n Config.params.DEB_N.fuse3, fuse4 := n Config.params.DEB_N.fuse4 } }

/-- The hypotheses of the second clause, with good observations and with bad ones at N; its bad observations fire at
N-1, the boundary of `count`; below it wherever the threshold leaves room. -/
theorem witness_PeriodStepsEachDebounceChannel :
    quiet.otp = false ∧ quiet.ocp = false ∧ quiet.opp = false ∧ quiet.ext = false ∧ quiet.sensorBad = false ∧
    quiet.fanBad1 = false ∧ quiet.fanBad2 = false ∧ quiet.fuseBad1 = false ∧ quiet.fuseBad2 = false ∧
    quiet.fuseBad3 = false ∧ quiet.fuseBad4 = false ∧
    allBad.otp = false ∧ allBad.ocp = false ∧ allBad.opp = false ∧ allBad.ext = false ∧
    base.enabled = false ∧ ramping.enabled = true ∧
    ((0 : Millis) - ramping.wdgLast).toNat ≤ Config.params.WDG_TIMEOUT_MS ∧
    (({ ramping with sp := { ramping.sp with cc := 5 } }.sp.get .cc : Int) -
      (measured Config.params .cc 0 5 : Int)).natAbs ≤ Config.params.REG_ERR_LIMIT.get .cc ∧
    (∀ ch, (counted id).debCnt.get ch + 1 ≠ Config.params.DEB_N.get ch) ∧
    (∀ ch, (counted (· - 1)).debCnt.get ch + 1 = Config.params.DEB_N.get ch) ∧
    (∀ ch, Config.params.DEB_N.get ch = 1 ∨ (counted (· - 2)).debCnt.get ch + 1 < Config.params.DEB_N.get ch) := by
  refine ⟨rfl, rfl, rfl, rfl, rfl, rfl, rfl, rfl, rfl, rfl, rfl, rfl, rfl, rfl, rfl, rfl, rfl, Nat.zero_le _, Nat.zero_le _,
    ?_, ?_, ?_⟩
  all_goals
    intro ch
    have h := Config.params.deb_n_pos ch
    cases ch <;> simp only [counted, PerChannel.get, id] at h ⊢ <;> omega

theorem witness_ProtectionsTripWithinPeriod :
    { quiet with otp := true }.otp = true ∧ { quiet with ocp := true }.ocp = true ∧
    { quiet with opp := true }.opp = true ∧ { quiet with ext := true }.ext = true ∧
    allBad.sensorBad = true ∧ allBad.fanBad1 = true ∧ allBad.fanBad2 = true ∧ allBad.fuseBad1 = true ∧
    allBad.fuseBad2 = true ∧ allBad.fuseBad3 = true ∧ allBad.fuseBad4 = true ∧ (counted (· - 1)).transient = false ∧
    (counted (· - 1)).debCnt.sensor + 1 = Config.params.DEB_N.sensor ∧
    (counted (· - 1)).debCnt.fuse4 + 1 = Config.params.DEB_N.fuse4 ∧
    ramping.faultMask.getLsbD 2 = true ∧ ramping.faultMask.getLsbD 13 = true ∧
    (counted (· - 1)).faultMask.getLsbD 3 = true ∧ (counted (· - 1)).faultMask.getLsbD 12 = true :=
  ⟨rfl, rfl, rfl, rfl, rfl, rfl, rfl, rfl, rfl, rfl, rfl, rfl, Nat.sub_add_cancel (Config.params.deb_n_pos .sensor),
    Nat.sub_add_cancel (Config.params.deb_n_pos .fuse4), by decide, by decide, by decide, by decide⟩

theorem witness_WatchdogExpiryDisables : base.enabled = false := rfl

theorem witness_DisabledLoadKeepsRegCounter : base.enabled = false := rfl

theorem witness_DebounceStepCounts :
    r0.debCnt.get .sensor + 1 < P0.DEB_N.get .sensor ∧
    { r0 with debCnt := r0.debCnt.set .sensor 3 }.debCnt.get .sensor + 1 = P0.DEB_N.get .sensor ∧
    P0.DEB_N.get .sensor ≤ { r0 with debCnt := r0.debCnt.set .sensor 4 }.debCnt.get .sensor := by
  decide

theorem witness_DebounceFiresOnNthBadObservation :
    r0.debCnt.get .fan1 = 0 ∧ r0.fault &&& 0x0010 = 0 := by decide

theorem witness_FuseGateTreatsRampAsGood :
    P0.FUSE_TRANSIENT_GATE = true ∧ { r0 with transient := true }.transient = true ∧ r0.transient = false := by decide

theorem witness_RegulationFaultSetsNir :
    { running .cv 12000 0 with debCnt := r0.debCnt.set .reg 2 }.debCnt.reg + 1 = P0.DEB_N.reg ∧
    (running .cv 12000 0).enabled = true ∧ (running .cv 12000 0).fault &&& (running .cv 12000 0).faultMask = 0 ∧
    (running .cv 12000 0).transient = false ∧
    (((running .cv 12000 0).sp.get .cv : Int) - (measured P0 .cv 11499 0 : Int)).natAbs > P0.REG_ERR_LIMIT.get .cv := by
  decide

/-- An enabled CC load of the block itself that misses its setpoint by one more than the limit, with REG at `reg` and
mask `m`. -/
def missing (reg : Nat) (m : FaultBits) : State :=
  { ramping with
    sp := { ramping.sp with cc := Config.params.REG_ERR_LIMIT.cc + 1 },
    debCnt := { ramping.debCnt with reg := reg }, faultMask := m }

theorem witness_RegulationFaultSetsNir_period (reg : Nat) (m : FaultBits) :
    (missing reg m).enabled = true ∧ (missing reg m).transient = false ∧
    ((0 : Millis) - (missing reg m).wdgLast).toNat ≤ Config.params.WDG_TIMEOUT_MS ∧
    (((missing reg m).sp.get (missing reg m).mode : Int) -
      (measured Config.params (missing reg m).mode 0 0 : Int)).natAbs >
        Config.params.REG_ERR_LIMIT.get (missing reg m).mode ∧
    (Config.params.DEB_N.reg = 1 ∨ (missing (Config.params.DEB_N.reg - 2) m).debCnt.reg + 1 < Config.params.DEB_N.reg) ∧
    (missing (Config.params.DEB_N.reg - 1) m).debCnt.reg + 1 = Config.params.DEB_N.reg ∧
    Config.params.DEB_N.reg ≤ (missing Config.params.DEB_N.reg m).debCnt.reg ∧
    ((missing reg 0).fault ||| 0x0100) &&& (missing reg 0).faultMask = 0 ∧
    ((missing reg 0x0100).fault ||| 0x0100) &&& (missing reg 0x0100).faultMask ≠ 0 := by
  have h : 1 ≤ Config.params.DEB_N.reg := Config.params.deb_n_pos .reg
  refine ⟨rfl, rfl, ?_, ?_, ?_, Nat.sub_add_cancel h, Nat.le_refl _, ?_, ?_⟩
  · have h0 : ((0 : Millis) - (missing reg m).wdgLast).toNat = 0 := by
      simp [missing, ramping, State.reset, State.resetOf]
    omega
  · show ((Config.params.REG_ERR_LIMIT.cc + 1 : Nat) - (0 : Nat) : Int).natAbs > Config.params.REG_ERR_LIMIT.cc
    omega
  · simp only [missing]
    omega
  · simp [missing]
  · simp only [missing, ramping, State.reset, State.resetOf]
    decide

theorem witness_MeasuredQuantities : (0 : Measure).toNat = 0 ∧ (1 : Measure).toNat ≠ 0 := by decide

theorem witness_SlewTickStepsTowardTarget :
    { base with slewRun := true }.slewRun = true ∧
    ((base.dacTarget : Int) - base.dacCode).natAbs ≤ Config.params.SLEW_DELTA ∧
    { base with dacCode := 0, dacTarget := Config.params.SLEW_DELTA + 1 }.dacTarget > 0 + Config.params.SLEW_DELTA ∧
    { base with dacCode := Config.params.SLEW_DELTA + 1, dacTarget := 0 }.dacTarget + Config.params.SLEW_DELTA <
      Config.params.SLEW_DELTA + 1 := by
  refine ⟨rfl, ?_, ?_, ?_⟩
  · simp [base, State.reset]
  · simp
  · simp

theorem witness_RampTakesCeilingOfDistanceTicks :
    { r0 with slewRun := true, transient := true, dacCode := 4000, dacTarget := 3000 }.slewRun = true ∧
    { r0 with slewRun := true, transient := true, dacCode := 4000, dacTarget := 3000 }.transient = true ∧
    { r0 with slewRun := true, transient := true, dacCode := 4000, dacTarget := 3000 }.dacCode ≠ 3000 := by
  decide

theorem witness_SampleNeedsEnabledClosedLoop : base.enabled = false ∧ ramping.mode = .cc := ⟨rfl, rfl⟩

theorem witness_SampleRunsPiStep :
    { ramping with mode := .cr }.enabled = true ∧ { ramping with mode := .cr }.mode = loopMode .cr := ⟨rfl, rfl⟩

theorem witness_OnlySampleMovesIntegrator :
    (∀ v c, Instr.evReset ≠ .evSample v c) ∧ ∃ t, exec .evReset { base with integ := 7 } = .next t :=
  ⟨fun _ _ h => (by cases h), ⟨_, rfl⟩⟩

theorem witness_StepKeepsFaultAndLoadConsistent :
    { ramping with inbox := [.event .slewTick] }.FaultOk ∧ { ramping with inbox := [.event .slewTick] }.LoadOk ∧
    ∃ t, step { ramping with inbox := [.event .slewTick] } = .next t := by
  have h := Config.params.non_maskable_subset
  rw [BitVec.and_comm] at h
  exact ⟨⟨by decide, h, by decide, by decide, by decide, fun _ => by decide⟩,
    ⟨rfl, rfl, rfl, fun _ => rfl, fun h => absurd h (by decide), Config.params.dac_min_le, Config.params.dac_min_le, rfl,
      by simp [ramping, State.reset], fun h => absurd h (by decide)⟩, ⟨_, rfl⟩⟩

theorem witness_StepKeepsRanges :
    { base with integ := 100000, inbox := [.event .slewTick] }.RangesOk ∧
    ∃ t, step { base with integ := 100000, inbox := [.event .slewTick] } = .next t := by
  have hz : ∀ ch, base.debCnt.get ch = 0 := by intro ch; cases ch <;> rfl
  refine ⟨⟨fun m => ⟨Nat.le_refl _, Config.params.sp_range m⟩, fun ch => ?_, fun _ ch => ?_, by decide⟩, ⟨_, rfl⟩⟩
  · exact (hz ch).symm ▸ Nat.zero_le _
  · exact (hz ch).symm ▸ Config.params.deb_n_pos ch

theorem witness_StepRunsDecodedInstruction :
    { base with inbox := [.event .reset] }.inbox = .event .reset :: [] ∧
    decode (.wire [0xFF, 0x90]) = .ok (.readFrame 0x10) ∧ decode (.wire [0x00]) = .error .tooShort ∧ base.inbox = [] :=
  ⟨rfl, rfl, rfl, rfl⟩

/-- The four checked rows at boundary operands under P0. -/
theorem witness_DecodeInvertsEncode :
    decode (encode (.rxDiscardSync 0xFE) P0) P0 = .ok (.rxDiscardSync 0xFE) ∧
    (Instr.wrInvalidAddr 0x20 0).wellFormed P0 = true ∧ (Instr.wrExternal 0x00 0).wellFormed P0 = true :=
  ⟨rfl, rfl, rfl⟩

end Sys2Proof.Tests
end

section
/-! The fetch (00_scope.md R6): what a step runs for each form of the inbox, and that every arm of `exec` answers a
next state (00_scope.md R11). -/

namespace Sys2Proof.Proofs

open Sys2Proof.Machine

theorem step_of_inbox_nil {s : State} (h : s.inbox = []) : step s = .next s := by
  obtain ⟨-, hwait⟩ | ⟨stim, rest, hcons, -⟩ := step_cases s
  · exact hwait
  · simp [h] at hcons

/-- One step takes the head of the inbox, runs the instruction it stands for, and leaves whatever the decoder puts
back in front of the rest. -/
theorem step_of_inbox_cons {s : State} {stim : Stimulus} {rest : List Stimulus} (h : s.inbox = stim :: rest) :
    step s = exec (decodeStimulus stim).1 (driftStats { s with inbox := (decodeStimulus stim).2 ++ rest }) := by
  obtain ⟨hnil, -⟩ | ⟨stim', rest', hcons, hrun⟩ := step_cases s
  · simp [h] at hnil
  · obtain ⟨rfl, rfl⟩ := List.cons.inj (h.symm.trans hcons)
    exact hrun

theorem decodeStimulus_event (e : PortEvent) : decodeStimulus (.event e) = (instrOfEvent e, []) := rfl

theorem decodeStimulus_wire_of_decode_ok {b : Byte} {bytes : List Byte} {i : Instr}
    (h : decode (.wire (b :: bytes)) = .ok i) : decodeStimulus (.wire b bytes) = (i, []) := by
  have hw : decodeWire (b :: bytes) = .ok i := h
  simp [decodeStimulus, hw]

theorem decodeStimulus_wire_of_decode_error {b : Byte} {bytes : List Byte} {x : DecodeError}
    (h : decode (.wire (b :: bytes)) = .error x) :
    decodeStimulus (.wire b bytes) = (.evRx b, bytes.map fun y => .event (.rx y)) := by
  have hw : decodeWire (b :: bytes) = .error x := h
  simp [decodeStimulus, hw]

/-- Every arm of `exec` is the `.next` of a total operation, so the case split on the instruction finds each one's
next state. -/
theorem exec_completes (i : Instr) (s : State) : ∃ t, exec i s = .next t := by
  cases i <;> exact ⟨_, rfl⟩

theorem step_completes (s : State) : ∃ t, step s = .next t := by
  obtain ⟨-, hwait⟩ | ⟨stim, rest, -, hrun⟩ := step_cases s
  · exact ⟨s, hwait⟩
  · rw [hrun]
    exact exec_completes _ _

/-- Settles O57: one equation of the fetch per form of the inbox. -/
theorem stepRunsDecodedInstruction : Obligations.StepRunsDecodedInstruction := by
  intro s rest
  refine ⟨fun e hin => ?event, fun b bytes i hin hok => ?command, fun b bytes x hin herr => ?byteRun, step_of_inbox_nil⟩
  case event =>
    rw [step_of_inbox_cons hin, decodeStimulus_event]
    rfl
  case command =>
    rw [step_of_inbox_cons hin, decodeStimulus_wire_of_decode_ok hok]
    rfl
  case byteRun =>
    rw [step_of_inbox_cons hin, decodeStimulus_wire_of_decode_error herr]
    rfl

/-- Settles O58: every arm of `exec` answers a next state, and a step waits or is one `exec`. -/
theorem everyStepCompletes : Obligations.EveryStepCompletes :=
  ⟨exec_completes, step_completes⟩

end Sys2Proof.Proofs
end

section
/-! The two halves of the block. A byte, a transmit-empty event, a publish and a pop leave the supervisor's registers
alone; a frame command, a period, a sample and a slew tick leave the serial side alone. An invariant that reads one half
is then kept by every step once the operations of its own half keep it. -/

namespace Sys2Proof.Proofs

open Sys2Proof.Machine

variable (p : Params) (s : State)

/-- All a received byte can do (41_protocol_engine.md R160 to R167). -/
theorem receive_cases (b : Byte) :
    receive p b s = s ∨
    (s.pstate = .sync ∧ receive p b s = { s with pstate := .addr }) ∨
    (s.pstate = .addr ∧
      receive p b s = { s with rlat := tableLookup p (byteAddr b) s, pstate := .thi, txeEn := true }) ∨
    (s.pstate = .addr ∧
      receive p b s = { s with facc := addrByte 0 (byteAddr b) ++ s.facc.extractLsb' 0 24, pstate := .dhi }) ∨
    (s.pstate = .dhi ∧
      receive p b s = { s with facc := s.facc.extractLsb' 24 8 ++ b ++ s.facc.extractLsb' 0 16, pstate := .dlo }) ∨
    (s.pstate = .dlo ∧
      receive p b s = { s with facc := s.facc.extractLsb' 16 16 ++ b ++ s.facc.extractLsb' 0 8, pstate := .ck }) ∨
    (s.pstate = .ck ∧
      receive p b s = { queuePush p (s.facc.extractLsb' 8 24 ++ b) s with pstate := .sync }) := by
  cases h : s.pstate
  case sync =>
    by_cases hb : b = syncByte
    · exact .inr (.inl ⟨rfl, hb ▸ receive_sync p h⟩)
    · exact .inl (receive_sync_other p h hb)
  case addr =>
    cases hd : isReadByte b
    · have hb : addrByte 0 (byteAddr b) = b := by simpa [hd] using addrByte_byteAddr b
      exact .inr (.inr (.inr (.inl ⟨rfl, by simpa only [hb] using receive_writeAddr p (a := byteAddr b) h⟩)))
    · have hb : addrByte 1 (byteAddr b) = b := by simpa [hd] using addrByte_byteAddr b
      exact .inr (.inr (.inl ⟨rfl, by simpa only [hb] using receive_readAddr p (a := byteAddr b) h⟩))
  case dhi => exact .inr (.inr (.inr (.inr (.inl ⟨rfl, receive_dataHi p b h⟩))))
  case dlo => exact .inr (.inr (.inr (.inr (.inr (.inl ⟨rfl, receive_dataLo p b h⟩)))))
  case ck => exact .inr (.inr (.inr (.inr (.inr (.inr ⟨rfl, receive_checksum p b h⟩)))))
  case thi => exact .inl (receive_transmitting p b (by rw [h]; rfl))
  case tlo => exact .inl (receive_transmitting p b (by rw [h]; rfl))
  case tck => exact .inl (receive_transmitting p b (by rw [h]; rfl))

/-- `s` with the registers of the serial side, the stimuli still to come, the transmit log and the free values of
`u`: its fault logic, load and supervisor registers are those of `s`. -/
def withSerial (s u : State) : State :=
  { s with
    pstate := u.pstate, facc := u.facc, rlat := u.rlat, txeEn := u.txeEn, qbuf := u.qbuf, qWr := u.qWr, qRd := u.qRd,
    qFull := u.qFull, table := u.table, stats := u.stats, inbox := u.inbox, tx := u.tx, freeCtr := u.freeCtr }

theorem receive_eq_withSerial (b : Byte) : receive p b s = withSerial s (receive p b s) := by
  obtain h | ⟨-, h⟩ | ⟨-, h⟩ | ⟨-, h⟩ | ⟨-, h⟩ | ⟨-, h⟩ | ⟨-, h⟩ := receive_cases p s b <;> rw [h, withSerial]
  obtain ⟨-, hpush⟩ | ⟨-, hpush⟩ := queuePush_cases p s (s.facc.extractLsb' 8 24 ++ b) <;> rw [hpush]

theorem transmit_eq_withSerial : transmit s = withSerial s (transmit s) := by
  obtain ⟨-, -, h⟩ | ⟨-, -, h⟩ | ⟨-, -, h⟩ | ⟨-, h⟩ := transmit_cases s <;> rw [h, withSerial]

theorem tablePublish_eq_withSerial (a : Addr) (v : Data) :
    tablePublish p a v s = withSerial s (tablePublish p a v s) := by
  obtain ⟨-, -, h⟩ | ⟨-, h⟩ := tablePublish_cases p a v s <;> rw [h, withSerial]

@[simp] theorem receive_table (b : Byte) : (receive p b s).table = s.table := by
  obtain h | ⟨-, h⟩ | ⟨-, h⟩ | ⟨-, h⟩ | ⟨-, h⟩ | ⟨-, h⟩ | ⟨-, h⟩ := receive_cases p s b <;> rw [h]
  obtain ⟨-, hpush⟩ | ⟨-, hpush⟩ := queuePush_cases p s (s.facc.extractLsb' 8 24 ++ b) <;> rw [hpush]

@[simp] theorem transmit_table : (transmit s).table = s.table := by
  obtain ⟨-, -, h⟩ | ⟨-, -, h⟩ | ⟨-, -, h⟩ | ⟨-, h⟩ := transmit_cases s <;> rw [h]

/-- The registers of the serial side: the protocol engine but for the read latch, the write queue, the register
table. -/
structure Link where
  pstate : PState
  facc : BitVec 32
  txeEn : Bool
  qbuf : List (Nat × FrameWord)
  qWr : Nat
  qRd : Nat
  qFull : Bool
  table : List (Nat × Entry)

/-- The serial side of `s`. -/
def linkOf (s : State) : Link :=
  { pstate := s.pstate, facc := s.facc, txeEn := s.txeEn, qbuf := s.qbuf, qWr := s.qWr, qRd := s.qRd,
    qFull := s.qFull, table := s.table }

@[simp] theorem linkOf_enableFalse : linkOf (enableFalse p s) = linkOf s := by simp [linkOf]

@[simp] theorem linkOf_enableTrue (now : Millis) : linkOf (enableTrue p now s) = linkOf s := by simp [linkOf]

@[simp] theorem linkOf_trigger (bits : FaultBits) : linkOf (trigger p bits s) = linkOf s := by simp [linkOf]

@[simp] theorem linkOf_clearFaults (bits : FaultBits) : linkOf (clearFaults p bits s) = linkOf s := by simp [linkOf]

@[simp] theorem linkOf_setFaultMask (m : FaultBits) : linkOf (setFaultMask p m s) = linkOf s := by simp [linkOf]

/-- What a frame command can do, as a rule: a property that holds of `s` and of every result of the operations a command
is made of holds after the command (42_write_queue.md R193 to R197, 43_fault_enable.md R227 to R237). -/
theorem dispatch_rule {P : State → Prop} {p : Params} {s : State} {now : Millis} {c : FrameCommand} (keep : P s)
    (enable : P (enableTrue p now s)) (disable : P (enableFalse p s))
    (mode : ∀ m, P { enableFalse p s with mode := m, integ := 0 })
    (spCc : ∀ d, P (wrSpCc p d s)) (spCv : ∀ d, P (wrSpCv p d s)) (spCr : ∀ d, P (wrSpCr p d s))
    (spCp : ∀ d, P (wrSpCp p d s)) (clear : ∀ d, c = .faultClear d → P (clearFaults p d s))
    (mask : ∀ m, P (setFaultMask p m s)) (refresh : P { s with wdgLast := now })
    (emit : ∀ a d, P (wrExternal a d s)) (crc : P (trigger p bitCrc s)) : P (dispatch p now c s) := by
  cases c
  case enable d =>
    simp only [dispatch, wrEnable]
    split
    · exact enable
    · exact disable
  case mode d =>
    simp only [dispatch, wrMode]
    split
    · exact keep
    · split
      · exact keep
      · exact mode _
  case spCc d => exact spCc d
  case spCv d => exact spCv d
  case spCr d => exact spCr d
  case spCp d => exact spCp d
  case faultClear d => exact clear d rfl
  case faultMask d => exact mask d
  case wdg d =>
    simp only [dispatch, wrWdg]
    split
    · exact refresh
    · exact keep
  case status d => exact keep
  case external a d => exact emit a d
  case badCode a d c =>
    simp only [dispatch, wrBadCode]
    split
    · exact crc
    · exact keep
  case invalidAddr a d => exact keep

/-- All WR_SP_CC can do: store the setpoint, and ramp an enabled CC load to it (43_fault_enable.md R233). -/
theorem wrSpCc_cases (d : Data) :
    (s.enabled = true ∧ s.mode = .cc ∧
      wrSpCc p d s =
        setCurrent p (setpointOf p .cc d) true { s with sp := { s.sp with cc := setpointOf p .cc d } }) ∨
    (¬ (s.enabled = true ∧ s.mode = .cc) ∧ wrSpCc p d s = { s with sp := { s.sp with cc := setpointOf p .cc d } }) := by
  by_cases h : s.enabled = true ∧ s.mode = .cc
  · exact .inl ⟨h.1, h.2, by simp [wrSpCc, h]⟩
  · exact .inr ⟨h, by simp [wrSpCc, h]⟩

/-- A frame command reaches the supervisor's registers only. -/
theorem linkOf_dispatch (now : Millis) (c : FrameCommand) : linkOf (dispatch p now c s) = linkOf s := by
  refine dispatch_rule (P := fun t => linkOf t = linkOf s) rfl (linkOf_enableTrue p s now) (linkOf_enableFalse p s)
    (fun _ => linkOf_enableFalse p s) (fun d => ?spCc) (fun _ => rfl) (fun _ => rfl) (fun _ => rfl)
    (fun d _ => linkOf_clearFaults p s d) (linkOf_setFaultMask p s) rfl (fun _ _ => rfl) (linkOf_trigger p s bitCrc)
  obtain ⟨-, -, h⟩ | ⟨-, h⟩ := wrSpCc_cases p s d <;> rw [h] <;> simp [linkOf]

theorem linkOf_period (now : Millis) (v c : Measure) (obs : Obs) : linkOf (period p now v c obs s) = linkOf s := by
  simp [linkOf]

/-- All a PI step can do: nothing, or a new integrator and a forced DAC code in range (46_pid.md R310, R312). -/
theorem sample_cases (v c : Measure) :
    sample p v c s = s ∨
    (s.enabled = true ∧ s.mode ≠ .cc ∧ ∃ (m : Loop) (e u : Int),
      sample p v c s = writeDacCode p u { s with integ := nextInteg p m e s.integ }) := by
  unfold sample
  cases hm : modeLoop s.mode with
  | none => exact .inl rfl
  | some m =>
    have hcc : s.mode ≠ .cc := by
      intro h
      simp [h, modeLoop] at hm
    by_cases he : s.enabled = true
    · exact .inr ⟨he, hcc, m, pidError p m (s.sp.get (loopMode m)) v c, _, if_pos he⟩
    · exact .inl (if_neg he)

theorem linkOf_sample (v c : Measure) : linkOf (sample p v c s) = linkOf s := by
  obtain h | ⟨-, -, m, e, u, h⟩ := sample_cases p s v c
  · rw [h]
  · rw [h]
    rfl

theorem linkOf_slewTick : linkOf (slewTick p s) = linkOf s := by
  obtain ⟨-, h⟩ | ⟨-, -, -, h⟩ | ⟨-, -, h⟩ | ⟨-, -, h⟩ := slewTick_cases p s <;> rw [h] <;> rfl

variable {P : State → Prop} {s t : State}

/-- A property of the serial side is kept by every step once the operations of the serial side and reset keep it. -/
theorem step_keeps_of_linkOf (reads : ∀ s t, linkOf t = linkOf s → P s → P t)
    (rx : ∀ b s, P s → P (receive Config.params b s)) (tx : ∀ s, P s → P (transmit s))
    (pub : ∀ a v s, P s → P (tablePublish Config.params a v s))
    (pop : ∀ s, queueEmpty s = false → P s → P { s with qRd := (s.qRd + 1) % Config.params.QCAP, qFull := false })
    (rst : ∀ s, P s → P (resetBlock Config.params s)) (h : step s = .next t) (hs : P s) : P t :=
  step_keeps
    (exec_keeps rx tx pub pop (fun now c s => reads _ _ (linkOf_dispatch _ s now c))
      (fun now v c obs s => reads _ _ (linkOf_period _ s now v c obs)) (fun v c s => reads _ _ (linkOf_sample _ s v c))
      (fun s => reads _ _ (linkOf_slewTick _ s)) (fun _ _ => reads _ _ rfl) rst)
    (fun _ _ => reads _ _ rfl) s t h hs

/-- A property of the supervisor's half is kept by every step once the operations of that half and reset keep it. -/
theorem step_keeps_of_withSerial (reads : ∀ s u, P s → P (withSerial s u))
    (run : ∀ now c s, P s → P (dispatch Config.params now c s))
    (per : ∀ now v i obs s, P s → P (period Config.params now v i obs s))
    (smp : ∀ v i s, P s → P (sample Config.params v i s)) (slew : ∀ s, P s → P (slewTick Config.params s))
    (rdy : ∀ r s, P s → P (setReady r s)) (rst : ∀ s, P s → P (resetBlock Config.params s))
    (h : step s = .next t) (hs : P s) : P t :=
  step_keeps
    (exec_keeps (fun b s hs => receive_eq_withSerial _ s b ▸ reads s _ hs)
      (fun s hs => transmit_eq_withSerial s ▸ reads s _ hs)
      (fun a v s hs => tablePublish_eq_withSerial _ s a v ▸ reads s _ hs)
      (fun s _ => reads s { s with qRd := (s.qRd + 1) % Config.params.QCAP, qFull := false }) run per smp slew rdy rst)
    (fun s inbox => reads s (driftStats { s with inbox := inbox })) s t h hs

end Sys2Proof.Proofs
end

section
/-! The register table over a step (10_state.md R38, R39): only a publish writes it, and it writes a consistent entry. -/

namespace Sys2Proof.Proofs

open Sys2Proof.Machine

variable {p : Params} {s t : State}

theorem mem_tableWrite {l : List (Nat × Entry)} {a : Addr} {e : Entry} {c : Nat × Entry}
    (h : c ∈ tableWrite p l a e) : c = (a.toNat, e) ∨ c ∈ l := by
  unfold tableWrite at h
  split at h
  · exact .inr (mem_eraseAt h)
  · exact mem_insertAt h

theorem tableOk_of_table_eq (h : s.TableOk p) (ht : t.table = s.table) : t.TableOk p :=
  ⟨by rw [ht]; exact h.canonical, by rw [ht]; exact h.coded, by rw [ht]; exact h.unmirrored⟩

theorem tablePublish_tableOk (a : Addr) (v : Data) (h : s.TableOk p) : (tablePublish p a v s).TableOk p := by
  obtain ⟨-, hview, he⟩ | ⟨-, he⟩ := tablePublish_cases p a v s
  case inr => rwa [he]
  refine ⟨tablePublish_wf p a v s h.canonical, fun c hc => ?_, fun c hc => ?_⟩ <;> rw [he] at hc
  · obtain rfl | hc := mem_tableWrite hc
    · simp
    · exact h.coded c hc
  · obtain rfl | hc := mem_tableWrite hc
    · simpa using hview
    · exact h.unmirrored c hc

theorem resetBlock_tableOk (p : Params) (s : State) : (resetBlock p s).TableOk p := ⟨rfl, by simp, by simp⟩

/-- Settles O16: a publish is the only operation that writes the table, and reset empties it. -/
theorem stepKeepsTableConsistent : Obligations.StepKeepsTableConsistent := by
  intro s t hs hstep
  refine step_keeps_of_linkOf (P := fun s => s.TableOk) ?reads ?rx ?tx ?pub ?pop ?rst hstep hs
  case reads => exact fun s t ht h => tableOk_of_table_eq h (congrArg Link.table ht)
  case rx => exact fun b s h => tableOk_of_table_eq h (receive_table _ s b)
  case tx => exact fun s h => tableOk_of_table_eq h (transmit_table s)
  case pub => exact fun a v s h => tablePublish_tableOk a v h
  case pop => exact fun s _ h => tableOk_of_table_eq h rfl
  case rst => exact fun s _ => resetBlock_tableOk _ s

end Sys2Proof.Proofs
end

section
/-! The protocol engine and the write queue over a step (10_state.md R34 to R37, 41_protocol_engine.md R163). -/

namespace Sys2Proof.Proofs

open Sys2Proof.Machine

variable {p : Params} {s t : State}

/-! ## The bit DIR of the accumulator (41_protocol_engine.md R163 to R166) -/

theorem msb_facc_writeAddr (a : Addr) (x : BitVec 32) :
    (addrByte 0 a ++ x.extractLsb' 0 24 : BitVec 32).msb = false := by
  simp only [addrByte, BitVec.msb_eq_getLsbD_last, BitVec.getLsbD_append]
  simp

theorem msb_facc_dataHi (x : BitVec 32) (d : Byte) :
    (x.extractLsb' 24 8 ++ d ++ x.extractLsb' 0 16 : BitVec 32).msb = x.msb := by
  simp only [BitVec.msb_eq_getLsbD_last, BitVec.getLsbD_append, BitVec.getLsbD_extractLsb']
  simp

theorem msb_facc_dataLo (x : BitVec 32) (d : Byte) :
    (x.extractLsb' 16 16 ++ d ++ x.extractLsb' 0 8 : BitVec 32).msb = x.msb := by
  simp only [BitVec.msb_eq_getLsbD_last, BitVec.getLsbD_append, BitVec.getLsbD_extractLsb']
  simp

theorem msb_queuedFrame (x : BitVec 32) (c : Byte) : (x.extractLsb' 8 24 ++ c : BitVec 32).msb = x.msb := by
  simp only [BitVec.msb_eq_getLsbD_last, BitVec.getLsbD_append, BitVec.getLsbD_extractLsb']
  simp

theorem queuePush_facc (w : FrameWord) : (queuePush p w s).facc = s.facc := by
  obtain ⟨-, h⟩ | ⟨-, h⟩ := queuePush_cases p s w <;> rw [h]

theorem queuePush_txeEn (w : FrameWord) : (queuePush p w s).txeEn = s.txeEn := by
  obtain ⟨-, h⟩ | ⟨-, h⟩ := queuePush_cases p s w <;> rw [h]

/-! ## The engine -/

theorem receive_engineOk (b : Byte) (h : s.EngineOk) : (receive p b s).EngineOk := by
  have htxe := h.txe
  obtain he | ⟨hps, he⟩ | ⟨-, he⟩ | ⟨hps, he⟩ | ⟨hps, he⟩ | ⟨hps, he⟩ | ⟨hps, he⟩ := receive_cases p s b <;> rw [he]
  · exact h
  · exact ⟨by rw [htxe, hps]; rfl, h.dir⟩
  · exact ⟨rfl, h.dir⟩
  · exact ⟨by rw [htxe, hps]; rfl, msb_facc_writeAddr _ _⟩
  · exact ⟨by rw [htxe, hps]; rfl, (msb_facc_dataHi _ _).trans h.dir⟩
  · exact ⟨by rw [htxe, hps]; rfl, (msb_facc_dataLo _ _).trans h.dir⟩
  · exact ⟨by rw [queuePush_txeEn, htxe, hps]; rfl, by rw [queuePush_facc]; exact h.dir⟩

theorem transmit_engineOk (h : s.EngineOk) : (transmit s).EngineOk := by
  obtain ⟨htxe, -, he⟩ | ⟨htxe, -, he⟩ | ⟨-, -, he⟩ | ⟨-, he⟩ := transmit_cases s <;> rw [he]
  · exact ⟨htxe, h.dir⟩
  · exact ⟨htxe, h.dir⟩
  · exact ⟨rfl, h.dir⟩
  · exact h

theorem engineOk_of_linkOf_eq (ht : linkOf t = linkOf s) (h : s.EngineOk) : t.EngineOk := by
  have hps : t.pstate = s.pstate := congrArg Link.pstate ht
  have hfacc : t.facc = s.facc := congrArg Link.facc ht
  have htxe : t.txeEn = s.txeEn := congrArg Link.txeEn ht
  exact ⟨by rw [hps, htxe]; exact h.txe, by rw [hfacc]; exact h.dir⟩

/-! ## The ring of slots (42_write_queue.md R190, R191) -/

/-- The slot `k` places behind the next one to pop. -/
def ringSlot (p : Params) (s : State) (k : Nat) : Nat := (s.qRd + k) % p.QCAP

/-- The queue reaches from the next slot to pop to the next slot to push. -/
theorem ringSlot_queueCount (hwr : s.qWr < p.QCAP) (hrd : s.qRd < p.QCAP) (hfull : s.qFull = false) :
    ringSlot p s (queueCount p s) = s.qWr := by
  have hmod : (s.qRd + (s.qWr + p.QCAP - s.qRd)) % p.QCAP = s.qWr := by
    rw [show s.qRd + (s.qWr + p.QCAP - s.qRd) = s.qWr + p.QCAP by omega, Nat.add_mod_right, Nat.mod_eq_of_lt hwr]
  simpa [ringSlot, queueCount, hfull] using hmod

theorem mod_ring_eq {wr rd cap : Nat} (hwr : wr < cap) (hrd : rd < cap) :
    (wr + cap - rd) % cap = if rd ≤ wr then wr - rd else wr + cap - rd := by
  split
  · rw [show wr + cap - rd = wr - rd + cap by omega, Nat.add_mod_right, Nat.mod_eq_of_lt (by omega)]
  · exact Nat.mod_eq_of_lt (by omega)

theorem succ_mod_ring_eq {i cap : Nat} (hi : i < cap) : (i + 1) % cap = if i + 1 = cap then 0 else i + 1 := by
  split
  · rw [‹i + 1 = cap›, Nat.mod_self]
  · exact Nat.mod_eq_of_lt (by omega)

theorem queueCount_push (w : FrameWord) (hwr : s.qWr < p.QCAP) (hrd : s.qRd < p.QCAP) (hfull : s.qFull = false) :
    queueCount p (queuePush p w s) = queueCount p s + 1 := by
  simp only [queuePush, hfull, queueCount, Bool.false_eq_true, if_false, beq_iff_eq]
  have hwr' : (s.qWr + 1) % p.QCAP < p.QCAP := Nat.mod_lt _ (by omega)
  rw [mod_ring_eq hwr hrd, mod_ring_eq hwr' hrd, succ_mod_ring_eq hwr]
  split_ifs <;> omega

theorem queueCount_pop (h : s.QueueOk p) (hne : queueEmpty s = false) :
    queueCount p { s with qRd := (s.qRd + 1) % p.QCAP, qFull := false } + 1 = queueCount p s := by
  have hwr := h.wr
  have hrd := h.rd
  have hrd' : (s.qRd + 1) % p.QCAP < p.QCAP := Nat.mod_lt _ (by omega)
  simp only [queueCount, Bool.false_eq_true, if_false]
  rw [mod_ring_eq hwr hrd, mod_ring_eq hwr hrd', succ_mod_ring_eq hrd]
  cases hfull : s.qFull
  · have hsep : s.qWr ≠ s.qRd := by simpa [queueEmpty, hfull] using hne
    simp only [Bool.false_eq_true, if_false]
    split_ifs <;> omega
  · have heq := h.full hfull
    simp only [if_true]
    split_ifs <;> omega

/-! ## The queue -/

theorem queuePush_queueOk {w : FrameWord} (h : s.QueueOk p) (hw : w.msb = false) : (queuePush p w s).QueueOk p := by
  obtain ⟨-, he⟩ | ⟨hfull, he⟩ := queuePush_cases p s w
  · rwa [he]
  have hcount := queueCount_push w h.wr h.rd hfull
  have hend := ringSlot_queueCount h.wr h.rd hfull
  rw [he] at hcount ⊢
  refine ⟨Nat.mod_lt _ p.qcap_pos, h.rd, fun hf => by simpa using hf, keysRise_insertAt _ _ h.rise, fun c hc => ?_,
    fun k hk => ?_⟩
  · obtain rfl | hc := mem_insertAt hc
    · exact ⟨h.wr, hw⟩
    · exact h.slots c hc
  · show (lookupAt (insertAt s.qbuf s.qWr w) (ringSlot p s k)).isSome = true
    by_cases hslot : ringSlot p s k = s.qWr
    · simp [hslot]
    · have hlt : k < queueCount p s := by
        have hne : k ≠ queueCount p s := fun hc => hslot (hc ▸ hend)
        omega
      rw [lookupAt_insertAt_other _ _ hslot]
      exact h.written k hlt

theorem pop_queueOk (hne : queueEmpty s = false) (h : s.QueueOk p) :
    State.QueueOk { s with qRd := (s.qRd + 1) % p.QCAP, qFull := false } p := by
  refine ⟨h.wr, Nat.mod_lt _ p.qcap_pos, nofun, h.rise, h.slots, fun k hk => ?_⟩
  have hcount := queueCount_pop h hne
  have hslot : ((s.qRd + 1) % p.QCAP + k) % p.QCAP = (s.qRd + (k + 1)) % p.QCAP := by
    rw [Nat.mod_add_mod, Nat.add_assoc, Nat.add_comm 1 k]
  show (lookupAt s.qbuf (((s.qRd + 1) % p.QCAP + k) % p.QCAP)).isSome = true
  rw [hslot]
  exact h.written (k + 1) (by omega)

theorem queueOk_of_eq (h : s.QueueOk p) (hbuf : t.qbuf = s.qbuf) (hwr : t.qWr = s.qWr) (hrd : t.qRd = s.qRd)
    (hfull : t.qFull = s.qFull) : t.QueueOk p := by
  have hcount : queueCount p t = queueCount p s := by simp only [queueCount, hwr, hrd, hfull]
  refine ⟨?_, ?_, ?_, ?_, ?_, ?_⟩ <;> simp only [hbuf, hwr, hrd, hfull, hcount]
  exacts [h.wr, h.rd, h.full, h.rise, h.slots, h.written]

theorem receive_queueOk (b : Byte) (he : s.EngineOk) (h : s.QueueOk p) : (receive p b s).QueueOk p := by
  obtain hr | ⟨-, hr⟩ | ⟨-, hr⟩ | ⟨-, hr⟩ | ⟨-, hr⟩ | ⟨-, hr⟩ | ⟨-, hr⟩ := receive_cases p s b <;> rw [hr]
  case inr.inr.inr.inr.inr.inr =>
    exact queueOk_of_eq (queuePush_queueOk h ((msb_queuedFrame s.facc b).trans he.dir)) rfl rfl rfl rfl
  all_goals exact queueOk_of_eq h rfl rfl rfl rfl

theorem transmit_queueOk (h : s.QueueOk p) : (transmit s).QueueOk p := by
  obtain ⟨-, -, he⟩ | ⟨-, -, he⟩ | ⟨-, -, he⟩ | ⟨-, he⟩ := transmit_cases s <;> rw [he] <;>
    exact queueOk_of_eq h rfl rfl rfl rfl

theorem queueOk_of_linkOf_eq (ht : linkOf t = linkOf s) (h : s.QueueOk p) : t.QueueOk p :=
  queueOk_of_eq h (congrArg Link.qbuf ht) (congrArg Link.qWr ht) (congrArg Link.qRd ht) (congrArg Link.qFull ht)

theorem resetBlock_queueOk (p : Params) (s : State) : (resetBlock p s).QueueOk p := by
  have hcap := p.qcap_pos
  refine ⟨hcap, hcap, nofun, rfl, by simp, fun k hk => ?_⟩
  simp [queueCount] at hk

/-- Settles O18: received bytes, transmit-empty events, pops and reset are the operations that reach the engine and the
queue, and each keeps both; the queue takes its DIR bit from the accumulator's. -/
theorem stepKeepsEngineAndQueue : Obligations.StepKeepsEngineAndQueue := by
  intro s t hengine hqueue hstep
  refine step_keeps_of_linkOf (P := fun s => s.EngineOk ∧ s.QueueOk) ?reads ?rx ?tx ?pub ?pop ?rst hstep
    ⟨hengine, hqueue⟩
  case reads => exact fun s t ht ⟨he, hq⟩ => ⟨engineOk_of_linkOf_eq ht he, queueOk_of_linkOf_eq ht hq⟩
  case rx => exact fun b s ⟨he, hq⟩ => ⟨receive_engineOk b he, receive_queueOk b he hq⟩
  case tx => exact fun s ⟨he, hq⟩ => ⟨transmit_engineOk he, transmit_queueOk hq⟩
  case pub =>
    intro a v s ⟨he, hq⟩
    obtain ⟨-, -, h⟩ | ⟨-, h⟩ := tablePublish_cases Config.params a v s <;> rw [h]
    · exact ⟨⟨he.txe, he.dir⟩, queueOk_of_eq hq rfl rfl rfl rfl⟩
    · exact ⟨he, hq⟩
  case pop => exact fun s hne ⟨he, hq⟩ => ⟨⟨he.txe, he.dir⟩, pop_queueOk hne hq⟩
  case rst => exact fun s _ => ⟨⟨rfl, by simp⟩, resetBlock_queueOk _ s⟩

end Sys2Proof.Proofs
end

section
/-! What a period keeps (44_debouncer.md R270): it is the watchdog check, four protections, seven debounce steps and, for
a load that is still on, the debounce step of REG. -/

namespace Sys2Proof.Proofs

open Sys2Proof.Machine

variable {P : State → Prop} {p : Params}

/-- What disabling, raising a cause and every debounce step keeps, a period keeps; the REG channel steps only while the
load is on. -/
theorem period_keeps (disable : ∀ s, P s → P (enableFalse p s)) (raise : ∀ bits s, P s → P (trigger p bits s))
    (deb : ∀ ch bad s, (ch = .reg → s.enabled = true) → P s → P (debStep p ch bad s))
    (now : Millis) (v c : Measure) (obs : Obs) (s : State) (hs : P s) : P (period p now v c obs s) := by
  have hwdg : P (wdgCheck p now s) := by
    obtain ⟨-, he⟩ | ⟨-, he, -⟩ := wdgCheck_cases p s now <;> rw [he]
    · exact hs
    · exact raise _ _ (disable _ hs)
  have prot : ∀ bit bad s, P s → P (protectOne p bit bad s) := by
    intro bit bad s h
    unfold protectOne
    split
    · exact raise bit s h
    · exact h
  have hprot : P (protect p obs (wdgCheck p now s)) := prot _ _ _ (prot _ _ _ (prot _ _ _ (prot _ _ _ hwdg)))
  have hdeb : ∀ ch bad s, ch ≠ .reg → P s → P (debStep p ch bad s) := fun ch bad s hch =>
    deb ch bad s fun h => absurd h hch
  have hfuse : ∀ ch bad s, ch ≠ .reg → P s → P (fuseStep p ch bad s) := fun ch _ s hch => hdeb ch _ s hch
  have hchecks : P (periodChecks p now obs s) :=
    hfuse _ _ _ nofun (hfuse _ _ _ nofun (hfuse _ _ _ nofun (hfuse _ _ _ nofun
      (hdeb _ _ _ nofun (hdeb _ _ _ nofun (hdeb _ _ _ nofun hprot))))))
  simp only [period]
  split
  · exact deb .reg _ _ (fun _ => ‹_›) hchecks
  · exact hchecks

end Sys2Proof.Proofs
end

section
/-! The fault logic and the load over a step (10_state.md R40 to R62, 43_fault_enable.md R226, R239, 45_slew_dac.md R291,
R295): the two invariants are kept apart, since no operation needs one to keep the other. -/

namespace Sys2Proof.Proofs

open Sys2Proof.Machine

variable {p : Params} {s : State}

/-! ## Fault bits and masks -/

/-- Latching defined causes leaves the reserved bits 0. -/
theorem latched_defined {f : FaultBits} (bits : FaultBits) (h : f &&& ~~~allFaults = 0) :
    (f ||| (bits &&& allFaults)) &&& ~~~allFaults = 0 := by
  rw [BitVec.and_or_distrib_right, h, BitVec.and_assoc, BitVec.and_not_self]
  simp

/-- Clearing causes leaves the reserved bits 0. -/
theorem cleared_defined {f : FaultBits} (bits : FaultBits) (h : f &&& ~~~allFaults = 0) :
    (f &&& ~~~bits) &&& ~~~allFaults = 0 := by
  rw [BitVec.and_assoc, BitVec.and_comm (~~~bits), ← BitVec.and_assoc, h]
  simp

/-- A mask is stored with every non-maskable bit (43_fault_enable.md R222). -/
theorem storedMask_keeps (p : Params) (m : FaultBits) :
    ((m ||| p.NON_MASKABLE) &&& allFaults) &&& p.NON_MASKABLE = p.NON_MASKABLE := by
  have hsub := p.non_maskable_subset
  rw [BitVec.and_assoc, BitVec.and_comm allFaults, hsub]
  apply BitVec.eq_of_getLsbD_eq
  intro i _
  simp only [BitVec.getLsbD_and, BitVec.getLsbD_or]
  cases m.getLsbD i <;> cases p.NON_MASKABLE.getLsbD i <;> rfl

theorem storedMask_within (p : Params) (m : FaultBits) :
    ((m ||| p.NON_MASKABLE) &&& allFaults) &&& ~~~allFaults = 0 := by
  rw [BitVec.and_assoc, BitVec.and_not_self]
  simp

/-! ## Fault logic -/

@[simp] theorem faultCondition_checkFaults : faultCondition (checkFaults p s) = faultCondition s := by
  simp [faultCondition, maskedFaults]

@[simp] theorem ledLevel_checkFaults : ledLevel (checkFaults p s) = ledLevel s := by
  simp [ledLevel, maskedFaults]

/-- An evaluation sets the flag and the line and takes a faulted load off, so of the fault logic only the bits and the
mask have to be right before it. -/
theorem checkFaults_faultOk (hdefined : s.fault &&& ~~~allFaults = 0)
    (hkeeps : s.faultMask &&& p.NON_MASKABLE = p.NON_MASKABLE) (hwithin : s.faultMask &&& ~~~allFaults = 0) :
    (checkFaults p s).FaultOk p where
  defined := by simpa using hdefined
  keeps := by simpa using hkeeps
  within := by simpa using hwithin
  active := by simp
  led := by simp
  arbitration := by simp

theorem enableFalse_faultOk (h : s.FaultOk p) : (enableFalse p s).FaultOk p where
  defined := by simpa using h.defined
  keeps := by simpa using h.keeps
  within := by simpa using h.within
  active := by simpa using h.active
  led := by simpa using h.led
  arbitration := by simp

theorem trigger_faultOk (bits : FaultBits) (h : s.FaultOk p) : (trigger p bits s).FaultOk p := by
  rw [trigger_eq_checkFaults]
  exact checkFaults_faultOk (latched_defined bits h.defined) h.keeps h.within

theorem clearFaults_faultOk (bits : FaultBits) (h : s.FaultOk p) : (clearFaults p bits s).FaultOk p :=
  checkFaults_faultOk (cleared_defined _ h.defined) h.keeps h.within

theorem setFaultMask_faultOk (m : FaultBits) (h : s.FaultOk p) : (setFaultMask p m s).FaultOk p :=
  checkFaults_faultOk h.defined (storedMask_keeps p m) (storedMask_within p m)

theorem enableAllowed_iff :
    enableAllowed s = true ↔ s.enabled = false ∧ s.ready = true ∧ faultCondition s = false := by
  simp [enableAllowed, and_assoc]

theorem enableTrue_faultOk (now : Millis) (h : s.FaultOk p) : (enableTrue p now s).FaultOk p := by
  obtain ⟨-, he⟩ | ⟨hallowed, -, he⟩ | ⟨hallowed, -, he⟩ := enableTrue_cases p s now <;> rw [he]
  · exact h
  · obtain ⟨-, -, hclear⟩ := enableAllowed_iff.mp hallowed
    exact { h with arbitration := fun _ => hclear }
  · obtain ⟨-, -, hclear⟩ := enableAllowed_iff.mp hallowed
    exact { h with arbitration := fun _ => hclear }

theorem dispatch_faultOk (now : Millis) (c : FrameCommand) (h : s.FaultOk p) : (dispatch p now c s).FaultOk p := by
  refine dispatch_rule (P := fun t => t.FaultOk p) h (enableTrue_faultOk now h) (enableFalse_faultOk h)
    (fun _ => { enableFalse_faultOk h with }) (fun d => ?spCc) (fun _ => { h with }) (fun _ => { h with })
    (fun _ => { h with }) (fun d _ => clearFaults_faultOk d h) (fun m => setFaultMask_faultOk m h) { h with }
    (fun _ _ => { h with }) (trigger_faultOk bitCrc h)
  obtain ⟨-, -, he⟩ | ⟨-, he⟩ := wrSpCc_cases p s d <;> rw [he] <;> exact { h with }

theorem debStep_faultOk (ch : Channel) (bad : Bool) (h : s.FaultOk p) : (debStep p ch bad s).FaultOk p := by
  obtain ⟨-, he⟩ | ⟨-, -, he⟩ | ⟨-, -, he⟩ | ⟨-, -, he⟩ := debStep_cases p s ch bad <;> rw [he]
  · exact { h with }
  · exact { h with }
  · exact { trigger_faultOk (s := { s with nir := s.nir || decide (ch = .reg) }) (channelBit ch) { h with } with }
  · exact h

theorem sample_faultOk (v c : Measure) (h : s.FaultOk p) : (sample p v c s).FaultOk p := by
  obtain he | ⟨-, -, m, e, u, he⟩ := sample_cases p s v c <;> rw [he]
  · exact h
  · exact { h with }

theorem slewTick_faultOk (h : s.FaultOk p) : (slewTick p s).FaultOk p := by
  obtain ⟨-, he⟩ | ⟨-, -, -, he⟩ | ⟨-, -, he⟩ | ⟨-, -, he⟩ := slewTick_cases p s <;> rw [he] <;> exact { h with }

theorem resetBlock_faultOk (p : Params) (s : State) : (resetBlock p s).FaultOk p where
  defined := by simp
  keeps := storedMask_keeps p _
  within := storedMask_within p _
  active := by simp [faultCondition, maskedFaults]
  led := by simp [ledLevel, maskedFaults]
  arbitration := by simp

theorem step_faultOk {t : State} (hstep : step s = .next t) (h : s.FaultOk) : t.FaultOk := by
  refine step_keeps_of_withSerial (P := fun s => s.FaultOk) ?reads ?run ?per ?smp ?slew ?rdy ?rst hstep h
  case reads => exact fun s u h => { h with }
  case run => exact fun now c s h => dispatch_faultOk now c h
  case per =>
    exact period_keeps (fun s h => enableFalse_faultOk h) (fun bits s h => trigger_faultOk bits h)
      (fun ch bad s _ h => debStep_faultOk ch bad h)
  case smp => exact fun v c s h => sample_faultOk v c h
  case slew => exact fun s h => slewTick_faultOk h
  case rdy => exact fun r s h => { h with }
  case rst => exact fun s _ => resetBlock_faultOk _ s

/-! ## Load and stepper -/

theorem afeCont_of_disabled (h : s.LoadOk p) (hoff : s.enabled = false) : s.afeCont = false := by
  simpa [hoff] using h.afe

theorem enableFalse_loadOk (h : s.LoadOk p) : (enableFalse p s).LoadOk p := by
  obtain ⟨-, he⟩ | ⟨-, he⟩ := enableFalse_cases p s <;> rw [he]
  · exact h
  · exact ⟨rfl, rfl, rfl, nofun, fun _ => ⟨rfl, rfl, rfl⟩, le_rfl, le_rfl, rfl, by simp, nofun⟩

theorem checkFaults_loadOk (h : s.LoadOk p) : (checkFaults p s).LoadOk p := by
  obtain ⟨-, he⟩ | ⟨-, he⟩ := checkFaults_cases p s <;> rw [he]
  · exact { enableFalse_loadOk h with }
  · exact { h with }

theorem trigger_loadOk (bits : FaultBits) (h : s.LoadOk p) : (trigger p bits s).LoadOk p := by
  rw [trigger_eq_checkFaults]
  exact checkFaults_loadOk { h with }

theorem enableTrue_loadOk (now : Millis) (h : s.LoadOk p) : (enableTrue p now s).LoadOk p := by
  obtain ⟨-, he⟩ | ⟨hallowed, hcc, he⟩ | ⟨-, hloop, he⟩ := enableTrue_cases p s now <;> rw [he]
  · exact h
  · obtain ⟨hoff, -, -⟩ := enableAllowed_iff.mp hallowed
    have hafe : s.afeCont = (true && s.mode != .cc) := by simp [afeCont_of_disabled h hoff, hcc]
    exact ⟨rfl, rfl, hafe, fun _ => rfl, nofun, p.dac_min_le, p.cc_code_le _, rfl, bne_comm, fun _ => ⟨rfl, hcc⟩⟩
  · have hafe : true = (true && s.mode != .cc) := by simp [hloop]
    exact ⟨rfl, rfl, hafe, fun _ => rfl, nofun, p.dac_min_le, p.dac_min_le, rfl, by simp, nofun⟩

/-- A slewed current only moves the target of an enabled CC load (45_slew_dac.md R290, R291). -/
theorem setCurrent_slew_loadOk (mA : Nat) (h : s.LoadOk p) (hon : s.enabled = true) (hcc : s.mode = .cc) :
    (setCurrent p mA true s).LoadOk p := by
  refine { h with
    off := ?off, target := p.cc_code_le mA, timer := rfl, ramping := bne_comm, ccOnly := fun _ => ⟨hon, hcc⟩ }
  intro hoff
  exact absurd (hon.symm.trans hoff) nofun

/-- Changing the mode of a load that is off, with the integrator at 0 (43_fault_enable.md R230). -/
theorem modeChange_loadOk (m : Mode) (h : s.LoadOk p) (hoff : s.enabled = false) :
    State.LoadOk { s with mode := m, integ := 0 } p := by
  have hafe := afeCont_of_disabled h hoff
  have hcode := h.off hoff
  refine { h with afe := ?afe, off := fun _ => ⟨hcode.1, hcode.2.1, rfl⟩, ccOnly := ?ccOnly }
  case afe => simp [hafe, hoff]
  case ccOnly =>
    intro hramp
    exact absurd ((h.ccOnly hramp).1.symm.trans hoff) nofun

theorem dispatch_loadOk (now : Millis) (c : FrameCommand) (h : s.LoadOk p) : (dispatch p now c s).LoadOk p := by
  refine dispatch_rule (P := fun t => t.LoadOk p) h (enableTrue_loadOk now h) (enableFalse_loadOk h)
    (fun m => modeChange_loadOk m (enableFalse_loadOk h) (enableFalse_enabled p s)) (fun d => ?spCc)
    (fun _ => { h with }) (fun _ => { h with }) (fun _ => { h with }) (fun _ _ => checkFaults_loadOk { h with })
    (fun _ => checkFaults_loadOk { h with }) { h with } (fun _ _ => { h with }) (trigger_loadOk bitCrc h)
  obtain ⟨hon, hcc, he⟩ | ⟨-, he⟩ := wrSpCc_cases p s d <;> rw [he]
  · exact setCurrent_slew_loadOk _ { h with } hon hcc
  · exact { h with }

/-- A debounce step of REG flags NIR, so it may run only while the load is on (44_debouncer.md R273, R277). -/
theorem debStep_loadOk (ch : Channel) (bad : Bool) (hreg : ch = .reg → s.enabled = true) (h : s.LoadOk p) :
    (debStep p ch bad s).LoadOk p := by
  obtain ⟨-, he⟩ | ⟨-, -, he⟩ | ⟨-, -, he⟩ | ⟨-, -, he⟩ := debStep_cases p s ch bad <;> rw [he]
  · exact { h with }
  · exact { h with }
  · have hflagged : State.LoadOk { s with nir := s.nir || decide (ch = .reg) } p := by
      refine { h with nirOn := fun hnir => ?_ }
      obtain hnir | hch : s.nir = true ∨ ch = .reg := by simpa using hnir
      · exact h.nirOn hnir
      · exact hreg hch
    exact { trigger_loadOk (channelBit ch) hflagged with }
  · exact h

theorem clampInt_toNat_le (u : Int) (n : Nat) : (clampInt u 0 n).toNat ≤ n := by
  unfold clampInt
  omega

theorem sample_loadOk (v c : Measure) (h : s.LoadOk p) : (sample p v c s).LoadOk p := by
  obtain he | ⟨hon, -, m, e, u, he⟩ := sample_cases p s v c <;> rw [he]
  · exact h
  · have hcode := clampInt_toNat_le u p.DAC_ZERO_CODE
    refine ⟨h.pwr0, h.pwr1, h.afe, h.nirOn, ?off, hcode, hcode, rfl, by simp [writeDacCode], nofun⟩
    intro hoff
    exact absurd (hon.symm.trans hoff) nofun

/-- A tick that does not land keeps the ramp of an enabled load going (45_slew_dac.md R292, R295). -/
theorem ramping_loadOk {c : Nat} (h : s.LoadOk p) (hrun : s.slewRun = true) (hc : c ≤ p.DAC_ZERO_CODE)
    (hne : c ≠ s.dacTarget) : State.LoadOk { s with dacCode := c } p := by
  have hramp : s.transient = true := h.timer.symm.trans hrun
  refine { h with off := ?off, code := hc, ramping := ?ramping }
  case off =>
    intro hoff
    exact absurd ((h.ccOnly hramp).1.symm.trans hoff) nofun
  case ramping => simpa [hramp] using hne

theorem slewTick_loadOk (h : s.LoadOk p) : (slewTick p s).LoadOk p := by
  have hcode := h.code
  have htarget := h.target
  obtain ⟨-, he⟩ | ⟨-, -, -, he⟩ | ⟨hrun, hfar, he⟩ | ⟨hrun, hfar, he⟩ := slewTick_cases p s <;> rw [he]
  · exact h
  · refine ⟨h.pwr0, h.pwr1, h.afe, h.nirOn, fun hoff => ?_, htarget, htarget, rfl, by simp, nofun⟩
    obtain ⟨-, hzero, hinteg⟩ := h.off hoff
    exact ⟨hzero, hzero, hinteg⟩
  · exact ramping_loadOk h hrun (by omega) (by omega)
  · exact ramping_loadOk h hrun (by omega) (by omega)

theorem resetBlock_loadOk (p : Params) (s : State) : (resetBlock p s).LoadOk p :=
  ⟨rfl, rfl, rfl, nofun, fun _ => ⟨rfl, rfl, rfl⟩, le_rfl, le_rfl, rfl, by simp, nofun⟩

theorem step_loadOk {t : State} (hstep : step s = .next t) (h : s.LoadOk) : t.LoadOk := by
  refine step_keeps_of_withSerial (P := fun s => s.LoadOk) ?reads ?run ?per ?smp ?slew ?rdy ?rst hstep h
  case reads => exact fun s u h => { h with }
  case run => exact fun now c s h => dispatch_loadOk now c h
  case per =>
    exact period_keeps (fun s h => enableFalse_loadOk h) (fun bits s h => trigger_loadOk bits h)
      (fun ch bad s hreg h => debStep_loadOk ch bad hreg h)
  case smp => exact fun v c s h => sample_loadOk v c h
  case slew => exact fun s h => slewTick_loadOk h
  case rdy => exact fun r s h => { h with }
  case rst => exact fun s _ => resetBlock_loadOk _ s

/-- A masked cause means a disabled load, and a disabled load has its lines off and its DAC at the zero-current code. -/
theorem safe_of_faultOk_loadOk (hfault : s.FaultOk p) (hload : s.LoadOk p) : s.Safe p := by
  intro h
  have hoff : s.enabled = false := by
    obtain hcause | hoff := h
    · by_contra hon
      have hclear := hfault.arbitration (by simpa using hon)
      exact absurd (hcause.symm.trans hclear) nofun
    · exact hoff
  exact ⟨hload.pwr0.trans hoff, hload.pwr1.trans hoff, (hload.off hoff).1⟩

/-- Settles O55: every operation of the supervisor keeps both invariants, and together they make a state safe. -/
theorem stepKeepsFaultAndLoadConsistent : Obligations.StepKeepsFaultAndLoadConsistent := by
  intro s t hfault hload hstep
  have hfault' := step_faultOk hstep hfault
  have hload' := step_loadOk hstep hload
  exact ⟨hfault', hload', safe_of_faultOk_loadOk hfault' hload'⟩

end Sys2Proof.Proofs
end

section
/-! Setpoints, debounce counters and the integrator over a step (10_state.md R54, R57, R63, 44_debouncer.md R273). -/

namespace Sys2Proof.Proofs

open Sys2Proof.Machine

variable {p : Params} {s t : State}

/-! ## Setpoints -/

theorem setpointOf_range (p : Params) (m : Mode) (d : Data) :
    p.SP_MIN.get m ≤ setpointOf p m d ∧ setpointOf p m d ≤ p.SP_MAX.get m := by
  have hrange := p.sp_range m
  unfold setpointOf clampNat
  omega

/-! ## Debounce counters -/

theorem nextCount_le {ch : Channel} {c : Nat} (bad : Bool) (h : c ≤ p.DEB_N.get ch) :
    nextCount p ch bad c ≤ p.DEB_N.get ch := by
  unfold nextCount
  split_ifs <;> omega

theorem nextCount_lt_of_holdBelow {ch : Channel} {c : Nat} (bad : Bool) (hold : p.DEB_REARM = .holdBelow)
    (h : c < p.DEB_N.get ch) : nextCount p ch bad c < p.DEB_N.get ch := by
  unfold nextCount
  rw [if_pos hold]
  split_ifs <;> omega

/-! ## Integrator -/

theorem nextInteg_range (m : Loop) (e i : Int) :
    -integLimit ≤ nextInteg p m e i ∧ nextInteg p m e i ≤ integLimit := by
  unfold nextInteg clampInt integLimit
  omega

theorem enableFalse_integ (p : Params) (s : State) : (enableFalse p s).integ = s.integ ∨ (enableFalse p s).integ = 0 := by
  obtain ⟨-, he⟩ | ⟨-, he⟩ := enableFalse_cases p s <;> rw [he] <;> simp

theorem checkFaults_integ (p : Params) (s : State) : (checkFaults p s).integ = s.integ ∨ (checkFaults p s).integ = 0 := by
  obtain ⟨-, he⟩ | ⟨-, he⟩ := checkFaults_cases p s <;> rw [he]
  · exact enableFalse_integ p s
  · exact .inl rfl

theorem enableTrue_integ (now : Millis) : (enableTrue p now s).integ = s.integ ∨ (enableTrue p now s).integ = 0 := by
  obtain ⟨-, he⟩ | ⟨-, -, he⟩ | ⟨-, -, he⟩ := enableTrue_cases p s now <;> rw [he] <;> simp

/-! ## The invariant -/

/-- The fault and enable operations keep the ranges: they may reset the integrator and write neither a setpoint nor a
counter. -/
theorem rangesOk_of_integ (h : s.RangesOk p) (hsp : t.sp = s.sp) (hcnt : t.debCnt = s.debCnt)
    (hinteg : t.integ = s.integ ∨ t.integ = 0) : t.RangesOk p := by
  refine ⟨by rw [hsp]; exact h.setpoint, by rw [hcnt]; exact h.count, by rw [hcnt]; exact h.countHeld, ?_⟩
  obtain hinteg | hinteg := hinteg <;> rw [hinteg]
  · exact h.integ
  · decide

theorem enableFalse_rangesOk (h : s.RangesOk p) : (enableFalse p s).RangesOk p :=
  rangesOk_of_integ h (by simp) (by simp) (enableFalse_integ p s)

theorem enableTrue_rangesOk (now : Millis) (h : s.RangesOk p) : (enableTrue p now s).RangesOk p :=
  rangesOk_of_integ h (by simp) (by simp) (enableTrue_integ now)

theorem checkFaults_rangesOk (h : s.RangesOk p) : (checkFaults p s).RangesOk p :=
  rangesOk_of_integ h (by simp) (by simp) (checkFaults_integ p s)

theorem trigger_rangesOk (bits : FaultBits) (h : s.RangesOk p) : (trigger p bits s).RangesOk p := by
  rw [trigger_eq_checkFaults]
  exact checkFaults_rangesOk { h with }

theorem wrSpCc_rangesOk (d : Data) (h : s.RangesOk p) : (wrSpCc p d s).RangesOk p := by
  have hstored : State.RangesOk { s with sp := { s.sp with cc := setpointOf p .cc d } } p :=
    { h with setpoint := fun
        | .cc => setpointOf_range p .cc d
        | .cv => h.setpoint .cv
        | .cr => h.setpoint .cr
        | .cp => h.setpoint .cp }
  obtain ⟨-, -, he⟩ | ⟨-, he⟩ := wrSpCc_cases p s d <;> rw [he]
  · exact { hstored with }
  · exact hstored

theorem wrSpCv_rangesOk (d : Data) (h : s.RangesOk p) : (wrSpCv p d s).RangesOk p :=
  { h with setpoint := fun
      | .cc => h.setpoint .cc
      | .cv => setpointOf_range p .cv d
      | .cr => h.setpoint .cr
      | .cp => h.setpoint .cp }

theorem wrSpCr_rangesOk (d : Data) (h : s.RangesOk p) : (wrSpCr p d s).RangesOk p :=
  { h with setpoint := fun
      | .cc => h.setpoint .cc
      | .cv => h.setpoint .cv
      | .cr => setpointOf_range p .cr d
      | .cp => h.setpoint .cp }

theorem wrSpCp_rangesOk (d : Data) (h : s.RangesOk p) : (wrSpCp p d s).RangesOk p :=
  { h with setpoint := fun
      | .cc => h.setpoint .cc
      | .cv => h.setpoint .cv
      | .cr => h.setpoint .cr
      | .cp => setpointOf_range p .cp d }

theorem dispatch_rangesOk (now : Millis) (c : FrameCommand) (h : s.RangesOk p) : (dispatch p now c s).RangesOk p :=
  dispatch_rule (P := fun t => t.RangesOk p) h (enableTrue_rangesOk now h) (enableFalse_rangesOk h)
    (fun _ => rangesOk_of_integ h (by simp) (by simp) (.inr rfl)) (fun d => wrSpCc_rangesOk d h)
    (fun d => wrSpCv_rangesOk d h) (fun d => wrSpCr_rangesOk d h) (fun d => wrSpCp_rangesOk d h)
    (fun _ _ => checkFaults_rangesOk { h with }) (fun _ => checkFaults_rangesOk { h with }) { h with }
    (fun _ _ => { h with }) (trigger_rangesOk bitCrc h)

theorem debStep_integ (ch : Channel) (bad : Bool) :
    (debStep p ch bad s).integ = s.integ ∨ (debStep p ch bad s).integ = 0 := by
  obtain ⟨-, he⟩ | ⟨-, -, he⟩ | ⟨-, -, he⟩ | ⟨-, -, he⟩ := debStep_cases p s ch bad <;> rw [he]
  · exact .inl rfl
  · exact .inl rfl
  · rw [trigger_eq_checkFaults]
    exact checkFaults_integ p _
  · exact .inl rfl

theorem debStep_get_same (ch : Channel) (bad : Bool) :
    (debStep p ch bad s).debCnt.get ch = nextCount p ch bad (s.debCnt.get ch) := by
  rw [debStep_debCnt, get_set_same]

theorem debStep_get_other {ch other : Channel} (bad : Bool) (h : other ≠ ch) :
    (debStep p ch bad s).debCnt.get other = s.debCnt.get other := by
  rw [debStep_debCnt, get_set_other _ _ h]

theorem debStep_rangesOk (ch : Channel) (bad : Bool) (h : s.RangesOk p) : (debStep p ch bad s).RangesOk p := by
  have hinteg := (rangesOk_of_integ (t := { s with integ := (debStep p ch bad s).integ }) h rfl rfl
    (debStep_integ ch bad)).integ
  refine ⟨by simpa using h.setpoint, fun other => ?_, fun hold other => ?_, hinteg⟩ <;>
    obtain rfl | hother := eq_or_ne other ch
  · rw [debStep_get_same]
    exact nextCount_le bad (h.count _)
  · rw [debStep_get_other bad hother]
    exact h.count other
  · rw [debStep_get_same]
    exact nextCount_lt_of_holdBelow bad hold (h.countHeld hold _)
  · rw [debStep_get_other bad hother]
    exact h.countHeld hold other

theorem sample_rangesOk (v c : Measure) (h : s.RangesOk p) : (sample p v c s).RangesOk p := by
  obtain he | ⟨-, -, m, e, u, he⟩ := sample_cases p s v c <;> rw [he]
  · exact h
  · exact { h with integ := nextInteg_range m e s.integ }

theorem slewTick_rangesOk (h : s.RangesOk p) : (slewTick p s).RangesOk p := by
  obtain ⟨-, he⟩ | ⟨-, -, -, he⟩ | ⟨-, -, he⟩ | ⟨-, -, he⟩ := slewTick_cases p s <;> rw [he] <;> exact { h with }

theorem resetBlock_rangesOk (p : Params) (s : State) : (resetBlock p s).RangesOk p where
  setpoint m := ⟨le_rfl, p.sp_range m⟩
  count ch := by cases ch <;> exact Nat.zero_le _
  countHeld _ ch := by cases ch <;> exact p.deb_n_pos _
  integ := (by decide : -integLimit ≤ 0 ∧ (0 : Int) ≤ integLimit)

/-- Settles O56: setpoints and the integrator are clamped where they are written, and a debounce step moves one counter
within its threshold. -/
theorem stepKeepsRanges : Obligations.StepKeepsRanges := by
  intro s t h hstep
  refine step_keeps_of_withSerial (P := fun s => s.RangesOk) ?reads ?run ?per ?smp ?slew ?rdy ?rst hstep h
  case reads => exact fun s u h => { h with }
  case run => exact fun now c s h => dispatch_rangesOk now c h
  case per =>
    exact period_keeps (fun s h => enableFalse_rangesOk h) (fun bits s h => trigger_rangesOk bits h)
      (fun ch bad s _ h => debStep_rangesOk ch bad h)
  case smp => exact fun v c s h => sample_rangesOk v c h
  case slew => exact fun s h => slewTick_rangesOk h
  case rdy => exact fun r s h => { h with }
  case rst => exact fun s _ => resetBlock_rangesOk _ s

end Sys2Proof.Proofs
end

section
/-! Latched fault bits (10_state.md R40): which instructions reach the fault register, and which of them can clear a
bit of it. -/

namespace Sys2Proof.Proofs

open Sys2Proof.Machine

variable {p : Params} {s t : State}

/-! ## The instructions by the half of the block they run in -/

/-- `t` is `s` but for the serial side. -/
def SerialOnly (s t : State) : Prop := t = withSerial s t

theorem SerialOnly.refl (s : State) : SerialOnly s s := rfl

theorem SerialOnly.trans {u : State} (hst : SerialOnly s t) (htu : SerialOnly t u) : SerialOnly s u := by
  unfold SerialOnly at hst htu ⊢
  rw [hst] at htu
  exact htu

theorem SerialOnly.of_eq_or_eq {u v : State} (h : u = v ∨ u = s) (hv : SerialOnly s v) : SerialOnly s u := by
  obtain rfl | rfl := h
  · exact hv
  · exact .refl _

theorem SerialOnly.fault (h : SerialOnly s t) : t.fault = s.fault := by
  unfold SerialOnly at h
  rw [h]
  rfl

theorem serialOnly_receive (p : Params) (b : Byte) (s : State) : SerialOnly s (receive p b s) :=
  receive_eq_withSerial p s b

theorem serialOnly_transmit (s : State) : SerialOnly s (transmit s) := transmit_eq_withSerial s

theorem serialOnly_receiveAll (p : Params) (bytes : List Byte) (s : State) : SerialOnly s (receiveAll p bytes s) :=
  receiveAll_keeps (P := SerialOnly s) (fun b u hu => hu.trans (serialOnly_receive p b u)) bytes s (.refl s)

/-- The instructions that leave the supervisor's half alone, and the others: a frame row, directly or by a dequeue, and
the events of the supervisor. -/
theorem exec_cases (i : Instr) (s : State) :
    (∃ t, exec i s = .next t ∧ SerialOnly s t) ∨ (∃ now c, i = instrOfFrame now c) ∨ (∃ now, i = .evDequeue now) ∨
    (∃ now v c obs, i = .evPeriod now v c obs) ∨ (∃ v c, i = .evSample v c) ∨ i = .evSlewTick ∨
    (∃ r, i = .evSetReady r) ∨ i = .evReset := by
  obtain ⟨rSync, rRead, rWrite, rHi, rLo, rCheck⟩ := rxRow_cases Config.params s
  obtain ⟨tHi, tLo, tCk⟩ := txRow_cases s
  have rx : ∀ b, SerialOnly s (receive Config.params b s) := fun b => serialOnly_receive _ b s
  have tx : SerialOnly s (transmit s) := serialOnly_transmit s
  cases i
  case sync => exact .inl ⟨_, rfl, .of_eq_or_eq rSync (rx _)⟩
  case rxDiscardSync b => exact .inl ⟨_, rfl, .refl s⟩
  case readAddr a => exact .inl ⟨_, rfl, .of_eq_or_eq (rRead a) (rx _)⟩
  case writeAddr a => exact .inl ⟨_, rfl, .of_eq_or_eq (rWrite a) (rx _)⟩
  case dataHi d => exact .inl ⟨_, rfl, .of_eq_or_eq (rHi d) (rx _)⟩
  case dataLo d => exact .inl ⟨_, rfl, .of_eq_or_eq (rLo d) (rx _)⟩
  case checksum c => exact .inl ⟨_, rfl, .of_eq_or_eq (rCheck c) (rx _)⟩
  case rxDiscardTx b => exact .inl ⟨_, rfl, .refl s⟩
  case txHi => exact .inl ⟨_, rfl, .of_eq_or_eq tHi tx⟩
  case txLo => exact .inl ⟨_, rfl, .of_eq_or_eq tLo tx⟩
  case txCk => exact .inl ⟨_, rfl, .of_eq_or_eq tCk tx⟩
  case writeFrame a d c => exact .inl ⟨_, rfl, serialOnly_receiveAll _ _ s⟩
  case readFrame a =>
    exact .inl ⟨_, rfl, (((serialOnly_receiveAll _ _ s).trans (serialOnly_transmit _)).trans
      (serialOnly_transmit _)).trans (serialOnly_transmit _)⟩
  case wrEnable d now => exact .inr (.inl ⟨now, .enable d, rfl⟩)
  case wrMode d => exact .inr (.inl ⟨0, .mode d, rfl⟩)
  case wrSpCc d => exact .inr (.inl ⟨0, .spCc d, rfl⟩)
  case wrSpCv d => exact .inr (.inl ⟨0, .spCv d, rfl⟩)
  case wrSpCr d => exact .inr (.inl ⟨0, .spCr d, rfl⟩)
  case wrSpCp d => exact .inr (.inl ⟨0, .spCp d, rfl⟩)
  case wrFaultClear d => exact .inr (.inl ⟨0, .faultClear d, rfl⟩)
  case wrFaultMask d => exact .inr (.inl ⟨0, .faultMask d, rfl⟩)
  case wrWdg d now => exact .inr (.inl ⟨now, .wdg d, rfl⟩)
  case wrStatus d => exact .inr (.inl ⟨0, .status d, rfl⟩)
  case wrExternal a d => exact .inr (.inl ⟨0, .external a d, rfl⟩)
  case wrBadCode a d c => exact .inr (.inl ⟨0, .badCode a d c, rfl⟩)
  case wrInvalidAddr a d => exact .inr (.inl ⟨0, .invalidAddr a d, rfl⟩)
  case evRx b => exact .inl ⟨_, rfl, rx b⟩
  case evTxe => exact .inl ⟨_, rfl, tx⟩
  case evPublish a v => exact .inl ⟨_, rfl, tablePublish_eq_withSerial _ s a v⟩
  case evDequeue now => exact .inr (.inr (.inl ⟨now, rfl⟩))
  case evPeriod now v c obs => exact .inr (.inr (.inr (.inl ⟨now, v, c, obs, rfl⟩)))
  case evSample v c => exact .inr (.inr (.inr (.inr (.inl ⟨v, c, rfl⟩))))
  case evSlewTick => exact .inr (.inr (.inr (.inr (.inr (.inl rfl)))))
  case evSetReady r => exact .inr (.inr (.inr (.inr (.inr (.inr (.inl ⟨r, rfl⟩))))))
  case evReset => exact .inr (.inr (.inr (.inr (.inr (.inr (.inr rfl))))))

/-- A frame row runs the dispatch of its command. -/
theorem exec_instrOfFrame (now : Millis) (c : FrameCommand) (s : State) :
    exec (instrOfFrame now c) s = .next (dispatch Config.params now c s) := by
  cases c <;> rfl

/-! ## Bit `k` of FAULT -/

variable {k : Nat}

theorem trigger_bit_stays (bits : FaultBits) (h : s.fault.getLsbD k = true) :
    (trigger p bits s).fault.getLsbD k = true := by
  simp [h]

theorem clearFaults_bit_stays {d : FaultBits} (h : s.fault.getLsbD k = true) (hd : d.getLsbD k = false) :
    (clearFaults p d s).fault.getLsbD k = true := by
  have hk : k < 16 := BitVec.lt_of_getLsbD h
  rw [clearFaults_fault, BitVec.getLsbD_and, BitVec.getLsbD_not, BitVec.getLsbD_and, h, hd]
  simp [hk]

/-- Only a fault-clear command that names the bit clears it. -/
theorem dispatch_bit_cases (now : Millis) (c : FrameCommand) (h : s.fault.getLsbD k = true) :
    (dispatch p now c s).fault.getLsbD k = true ∨ ∃ d, c = .faultClear d ∧ d.getLsbD k = true := by
  refine dispatch_rule (P := fun t => t.fault.getLsbD k = true ∨ ∃ d, c = .faultClear d ∧ d.getLsbD k = true) (.inl h)
    (.inl (by simpa using h)) (.inl (by simpa using h)) (fun _ => .inl (by simpa using h)) (fun d => ?spCc)
    (fun _ => .inl h) (fun _ => .inl h) (fun _ => .inl h) (fun d hc => ?clear) (fun _ => .inl (by simpa using h))
    (.inl h) (fun _ _ => .inl h) (.inl (trigger_bit_stays bitCrc h))
  case spCc => obtain ⟨-, -, he⟩ | ⟨-, he⟩ := wrSpCc_cases p s d <;> rw [he] <;> exact .inl (by simpa using h)
  case clear =>
    cases hd : d.getLsbD k
    · exact .inl (clearFaults_bit_stays h hd)
    · exact .inr ⟨d, hc, hd⟩

theorem period_bit_stays (now : Millis) (v c : Measure) (obs : Obs) (h : s.fault.getLsbD k = true) :
    (period p now v c obs s).fault.getLsbD k = true := by
  refine period_keeps (P := fun s => s.fault.getLsbD k = true) (fun s h => by simpa using h)
    (fun bits s h => trigger_bit_stays bits h) (fun ch bad s _ h => ?deb) now v c obs s h
  rw [debStep_bit, h, Bool.true_or]

theorem sample_fault (p : Params) (s : State) (v c : Measure) : (sample p v c s).fault = s.fault := by
  obtain he | ⟨-, -, m, e, u, he⟩ := sample_cases p s v c <;> rw [he]
  rfl

theorem slewTick_fault (p : Params) (s : State) : (slewTick p s).fault = s.fault := by
  obtain ⟨-, he⟩ | ⟨-, -, -, he⟩ | ⟨-, -, he⟩ | ⟨-, -, he⟩ := slewTick_cases p s <;> rw [he]

/-- Settles O26: of the instructions that reach the fault register a frame command clears only what `faultClear` names,
a period only adds bits, and reset is the one exception. -/
theorem faultBitsStayLatched : Obligations.FaultBitsStayLatched := by
  intro i s t k hexec hset hclear
  have lost : ∀ u, exec i s = .next u → u.fault.getLsbD k = true → False := by
    intro u hu hbit
    obtain rfl := next_inj (hexec.symm.trans hu)
    exact absurd (hbit.symm.trans hclear) nofun
  obtain ⟨u, hu, hserial⟩ | ⟨now, c, rfl⟩ | ⟨now, rfl⟩ | ⟨now, v, c, obs, rfl⟩ | ⟨v, c, rfl⟩ | rfl | ⟨r, rfl⟩ | rfl :=
    exec_cases i s
  · exact (lost u hu (hserial.fault ▸ hset)).elim
  · obtain hstays | ⟨d, rfl, hd⟩ := dispatch_bit_cases (p := Config.params) now c hset
    · exact (lost _ (exec_instrOfFrame now c s) hstays).elim
    · exact .inr ⟨d, hd, .inl rfl⟩
  · obtain ⟨-, he⟩ | ⟨-, he⟩ := dequeue_cases Config.params now s
    · exact (lost _ rfl (by rwa [he])).elim
    · obtain hstays | ⟨d, hc, hd⟩ := dispatch_bit_cases (p := Config.params)
        (s := { s with qRd := (s.qRd + 1) % Config.params.QCAP, qFull := false }) now
        (decodeFrame Config.params (queueSlot s s.qRd)) hset
      · exact (lost _ rfl (by rwa [he])).elim
      · exact .inr ⟨d, hd, .inr ⟨now, rfl, hc⟩⟩
  · exact (lost _ rfl (period_bit_stays now v c obs hset)).elim
  · exact (lost _ rfl (by rwa [sample_fault])).elim
  · exact (lost _ rfl (by rwa [slewTick_fault])).elim
  · exact (lost _ rfl hset).elim
  · exact .inl rfl

end Sys2Proof.Proofs
end

section
/-! The frame of a period and of a reset (44_debouncer.md R270, 70_reset_and_hazards.md R360). -/

namespace Sys2Proof.Proofs

open Sys2Proof.Machine

/-- Settles O40: field by field, from the frame laws of `period`. -/
theorem periodTouchesProtectionOnly : Obligations.PeriodTouchesProtectionOnly := by
  intro now v c obs s
  refine ⟨period Config.params now v c obs s, rfl, ?_⟩
  apply State.ext <;> simp

theorem queueSlot_resetBlock (p : Params) (s : State) (k : Nat) :
    queueSlot (resetBlock p s) k = Config.freeSlot s.freeCtr k := by
  simp [queueSlot, lookupAt]

/-- Settles O53: reset keeps the model's own inbox and event count, and lists no slot as written. -/
theorem resetKeepsStimuli : Obligations.ResetKeepsStimuli := fun s =>
  ⟨resetBlock Config.params s, rfl, resetBlock_inbox _ s, resetBlock_freeCtr _ s, resetBlock_qbuf _ s,
    queueSlot_resetBlock _ s⟩

end Sys2Proof.Proofs
end

section
/-! The causes a period raises, its debounce counters, and the trip of a masked cause (44_debouncer.md R270 to R277). -/

namespace Sys2Proof.Proofs

open Sys2Proof.Machine

variable {p : Params} {base s t : State} {r : FaultBits}

/-! ## Causes raised and evaluated -/

/-- The cause `b` where it is raised. -/
def causeIf (raised : Bool) (b : FaultBits) : FaultBits := if raised then b else 0

theorem causeIf_getLsbD (raised : Bool) (b : FaultBits) (k : Nat) :
    (causeIf raised b).getLsbD k = (raised && b.getLsbD k) := by
  cases raised <;> simp [causeIf]

theorem causeIf_eq_zero {raised : Bool} {b : FaultBits} (hb : b ≠ 0) : causeIf raised b = 0 ↔ raised = false := by
  cases raised
  · exact ⟨fun _ => rfl, fun _ => rfl⟩
  · simpa [causeIf] using hb

/-- Whether channel `ch` fires on the observation `bad`, read off the counters of `s` (44_debouncer.md R273). -/
def firesAt (p : Params) (s : State) (ch : Channel) (bad : Bool) : Bool :=
  bad && decide (s.debCnt.get ch + 1 = p.DEB_N.get ch)

theorem debFires_eq_firesAt {ch : Channel} {bad : Bool} (hcnt : t.debCnt.get ch = s.debCnt.get ch) :
    debFires p ch bad t = firesAt p s ch bad := by
  rw [debFires_eq, hcnt, firesAt]

/-- `Raised`, and the fault flag stands for the fault condition once a cause has been raised. -/
structure RaisedEvaluated (s : State) (r : FaultBits) (t : State) : Prop extends Raised s r t where
  active : r ≠ 0 → t.faultActive = faultCondition t

theorem raisedEvaluated_none (s : State) : RaisedEvaluated s 0 s := ⟨.none s, fun h => absurd rfl h⟩

theorem trigger_faultActive (p : Params) (bits : FaultBits) (s : State) :
    (trigger p bits s).faultActive = faultCondition (trigger p bits s) := by
  rw [trigger_eq_checkFaults, faultCondition_checkFaults, checkFaults_faultActive]

theorem RaisedEvaluated.protectOne (h : RaisedEvaluated base r t) {b : FaultBits} (bad : Bool)
    (hb : b &&& allFaults = b) (h0 : b ≠ 0) :
    RaisedEvaluated base (r ||| causeIf bad b) (Machine.protectOne p b bad t) := by
  refine ⟨h.toRaised.protectOne p bad hb h0, ?_⟩
  cases bad
  · simpa [causeIf, Machine.protectOne] using h.active
  · exact fun _ => trigger_faultActive p b t

theorem RaisedEvaluated.debStep (h : RaisedEvaluated base r t) (ch : Channel) (bad : Bool) :
    RaisedEvaluated base (r ||| causeIf (debFires p ch bad t) (channelBit ch)) (Machine.debStep p ch bad t) := by
  refine ⟨h.toRaised.debStep p ch bad, ?_⟩
  cases hf : debFires p ch bad t
  · rw [debStep_of_not_fires p t hf]
    exact fun hr => h.active (by simpa [causeIf] using hr)
  · intro _
    obtain ⟨rfl, -⟩ | ⟨rfl, hlt, -⟩ | ⟨-, -, he⟩ | ⟨rfl, hle, -⟩ := debStep_cases p t ch bad
    · simp [debFires] at hf
    · simp [debFires, Nat.ne_of_lt hlt] at hf
    · rw [he]
      exact trigger_faultActive p (channelBit ch) { t with nir := t.nir || decide (ch = .reg) }
    · have hne : ¬ t.debCnt.get ch + 1 = p.DEB_N.get ch := by omega
      simp [debFires, hne] at hf

/-- A debounce step whose counter is still that of `s`. -/
theorem RaisedEvaluated.debStepAt (h : RaisedEvaluated base r t) {ch : Channel} (bad : Bool)
    (hcnt : t.debCnt.get ch = s.debCnt.get ch) :
    RaisedEvaluated base (r ||| causeIf (firesAt p s ch bad) (channelBit ch)) (Machine.debStep p ch bad t) :=
  debFires_eq_firesAt (p := p) hcnt ▸ h.debStep ch bad

/-- A raised cause is latched, and trips the load when it is masked (43_fault_enable.md R220, R223). -/
theorem RaisedEvaluated.trips (h : RaisedEvaluated base r t) {k : Nat} (hk : r.getLsbD k = true) :
    t.fault.getLsbD k = true ∧
    (base.faultMask.getLsbD k = true → t.enabled = false ∧ t.faultActive = true ∧ t.enableState = .fault) := by
  have hbit : (base.fault ||| r).getLsbD k = true := by rw [BitVec.getLsbD_or, hk, Bool.or_true]
  refine ⟨h.fault ▸ hbit, fun hmask => ?_⟩
  have hr : r ≠ 0 := by
    rintro rfl
    simp at hk
  have hmasked : (base.fault ||| r) &&& base.faultMask ≠ 0 := by
    intro hz
    have hz' := congrArg (fun x => BitVec.getLsbD x k) hz
    simp only [BitVec.getLsbD_and, hbit, hmask] at hz'
    simp at hz'
  have hoff : t.enabled = false := by
    rw [h.enabled, quenches, bne_iff_ne.mpr hr, bne_iff_ne.mpr hmasked]
    simp
  have hactive : t.faultActive = true := by
    rw [h.active hr, faultCondition, maskedFaults, h.fault, h.mask]
    simpa using hmasked
  exact ⟨hoff, hactive, by rw [State.enableState, hactive]; rfl⟩

/-! ## The steps of a period -/

/-- The causes raised before the fuse channels: protections, SENSOR, FAN1, FAN2 (44_debouncer.md R272, R275). -/
def earlyCauses (p : Params) (obs : Obs) (s : State) : FaultBits :=
  causeIf obs.otp 0x0004 ||| causeIf obs.ocp 0x0040 ||| causeIf obs.opp 0x0080 ||| causeIf obs.ext 0x2000 |||
    causeIf (firesAt p s .sensor obs.sensorBad) 0x0008 ||| causeIf (firesAt p s .fan1 obs.fanBad1) 0x0010 |||
    causeIf (firesAt p s .fan2 obs.fanBad2) 0x0020

/-- The state the fuse channels read. -/
def earlyState (p : Params) (now : Millis) (obs : Obs) (s : State) : State :=
  debStep p .fan2 obs.fanBad2 (debStep p .fan1 obs.fanBad1
    (debStep p .sensor obs.sensorBad (protect p obs (wdgCheck p now s))))

/-- Whether the ramp gates the fuse observations: it goes on unless the watchdog or an early masked cause disables the
load (44_debouncer.md R276). -/
def fuseGate (p : Params) (now : Millis) (obs : Obs) (s : State) : Bool :=
  p.FUSE_TRANSIENT_GATE &&
    (s.transient && !(s.enabled && (wdgExpired p now s || quenches s (earlyCauses p obs s))))

/-- All the causes a period raises after the watchdog but REG. -/
def periodCauses (p : Params) (now : Millis) (obs : Obs) (s : State) : FaultBits :=
  earlyCauses p obs s ||| causeIf (firesAt p s .fuse1 (obs.fuseBad1 && !fuseGate p now obs s)) 0x0200 |||
    causeIf (firesAt p s .fuse2 (obs.fuseBad2 && !fuseGate p now obs s)) 0x0400 |||
    causeIf (firesAt p s .fuse3 (obs.fuseBad3 && !fuseGate p now obs s)) 0x0800 |||
    causeIf (firesAt p s .fuse4 (obs.fuseBad4 && !fuseGate p now obs s)) 0x1000

theorem raisedEvaluated_protect (p : Params) (obs : Obs) (s : State) :
    RaisedEvaluated s
      (causeIf obs.otp 0x0004 ||| causeIf obs.ocp 0x0040 ||| causeIf obs.opp 0x0080 ||| causeIf obs.ext 0x2000)
      (protect p obs s) := by
  have h := ((((raisedEvaluated_none s).protectOne (p := p) (b := bitOtp) obs.otp (by decide) (by decide)).protectOne
    (p := p) (b := bitOcp) obs.ocp (by decide) (by decide)).protectOne
    (p := p) (b := bitOpp) obs.opp (by decide) (by decide)).protectOne
    (p := p) (b := bitExt) obs.ext (by decide) (by decide)
  rwa [show (0 : FaultBits) ||| causeIf obs.otp bitOtp = causeIf obs.otp bitOtp from BitVec.zero_or] at h

theorem raisedEvaluated_earlyState (p : Params) (now : Millis) (obs : Obs) (s : State) :
    RaisedEvaluated (wdgCheck p now s) (earlyCauses p obs s) (earlyState p now obs s) :=
  (((raisedEvaluated_protect p obs (wdgCheck p now s)).debStepAt (s := s) obs.sensorBad (by simp)).debStepAt
    (s := s) obs.fanBad1 (by simp [debStep_debCnt, PerChannel.set, PerChannel.get])).debStepAt
    (s := s) obs.fanBad2 (by simp [debStep_debCnt, PerChannel.set, PerChannel.get])

theorem earlyState_gate (p : Params) (now : Millis) (obs : Obs) (s : State) :
    (p.FUSE_TRANSIENT_GATE && (earlyState p now obs s).transient) = fuseGate p now obs s := by
  rw [(raisedEvaluated_earlyState p now obs s).transient, fuseGate]
  obtain ⟨hexp, he⟩ | ⟨hexp, -, hoff, hramp, -⟩ := wdgCheck_cases p s now
  · rw [he, hexp, Bool.false_or]
  · have hon : s.enabled = true := by
      rw [wdgExpired, Bool.and_eq_true] at hexp
      exact hexp.1
    simp [hoff, hramp, hexp, hon]

/-- The checks of a period, with the fuse observations behind their one gate. -/
theorem periodChecks_eq_gated (p : Params) (now : Millis) (obs : Obs) (s : State) :
    periodChecks p now obs s =
      debStep p .fuse4 (obs.fuseBad4 && !fuseGate p now obs s) (debStep p .fuse3 (obs.fuseBad3 && !fuseGate p now obs s)
        (debStep p .fuse2 (obs.fuseBad2 && !fuseGate p now obs s)
          (debStep p .fuse1 (obs.fuseBad1 && !fuseGate p now obs s) (earlyState p now obs s)))) :=
  periodChecks_eq p s now obs rfl (earlyState_gate p now obs s)

/-- The counters after the checks of a period: each channel steps its own, REG waits. -/
theorem periodChecks_debCnt (p : Params) (now : Millis) (obs : Obs) (s : State) :
    (periodChecks p now obs s).debCnt =
      { sensor := nextCount p .sensor obs.sensorBad s.debCnt.sensor
        fan1 := nextCount p .fan1 obs.fanBad1 s.debCnt.fan1
        fan2 := nextCount p .fan2 obs.fanBad2 s.debCnt.fan2
        reg := s.debCnt.reg
        fuse1 := nextCount p .fuse1 (obs.fuseBad1 && !fuseGate p now obs s) s.debCnt.fuse1
        fuse2 := nextCount p .fuse2 (obs.fuseBad2 && !fuseGate p now obs s) s.debCnt.fuse2
        fuse3 := nextCount p .fuse3 (obs.fuseBad3 && !fuseGate p now obs s) s.debCnt.fuse3
        fuse4 := nextCount p .fuse4 (obs.fuseBad4 && !fuseGate p now obs s) s.debCnt.fuse4 } := by
  rw [periodChecks_eq_gated]
  simp [earlyState, debStep_debCnt, PerChannel.set, PerChannel.get]

theorem raisedEvaluated_periodChecks (p : Params) (now : Millis) (obs : Obs) (s : State) :
    RaisedEvaluated (wdgCheck p now s) (periodCauses p now obs s) (periodChecks p now obs s) := by
  rw [periodChecks_eq_gated]
  refine ((((raisedEvaluated_earlyState p now obs s).debStepAt (s := s) _ ?_).debStepAt (s := s) _ ?_).debStepAt
    (s := s) _ ?_).debStepAt (s := s) _ ?_ <;>
    simp [earlyState, debStep_debCnt, PerChannel.set, PerChannel.get]

/-- The regulation step may add the cause REG. -/
theorem raisedEvaluated_period (p : Params) (now : Millis) (v c : Measure) (obs : Obs) (s : State) :
    ∃ reg, RaisedEvaluated (wdgCheck p now s) (periodCauses p now obs s ||| causeIf reg 0x0100)
      (period p now v c obs s) := by
  have h := raisedEvaluated_periodChecks p now obs s
  simp only [period]
  split
  · exact ⟨_, h.debStep .reg _⟩
  · exact ⟨false, by simpa [causeIf] using h⟩

/-- The regulation step counts REG only. -/
theorem period_get_of_ne_reg (p : Params) (now : Millis) (v c : Measure) (obs : Obs) (s : State) {ch : Channel}
    (h : ch ≠ .reg) : (period p now v c obs s).debCnt.get ch = (periodChecks p now obs s).debCnt.get ch := by
  simp only [period]
  split
  · exact debStep_get_other _ h
  · rfl

/-! ## Bits of FAULT after a period -/

/-- The watchdog latches COMM only. -/
theorem wdgCheck_bit (p : Params) (now : Millis) (s : State) {k : Nat} (hk : k ≠ 0) :
    (wdgCheck p now s).fault.getLsbD k = s.fault.getLsbD k := by
  obtain ⟨-, he⟩ | ⟨-, -, -, -, he⟩ := wdgCheck_cases p s now <;> rw [he]
  have hcomm : bitComm.getLsbD k = false := by simp [bitComm, hk]
  rw [BitVec.getLsbD_or, hcomm, Bool.or_false]

/-- The bits but COMM and REG: those latched before and those the period raises. -/
theorem period_bit (p : Params) (now : Millis) (v c : Measure) (obs : Obs) (s : State) {k : Nat} (hcomm : k ≠ 0)
    (hreg : k ≠ 8) {raised : Bool} (hraised : (periodCauses p now obs s).getLsbD k = raised) :
    (period p now v c obs s).fault.getLsbD k = (s.fault.getLsbD k || raised) := by
  obtain ⟨reg, h⟩ := raisedEvaluated_period p now v c obs s
  have hbit : (0x0100 : FaultBits).getLsbD k = false := by
    rw [show (0x0100 : FaultBits) = BitVec.twoPow 16 8 from rfl, BitVec.getLsbD_twoPow]
    simp [hreg.symm]
  rw [h.fault, BitVec.getLsbD_or, BitVec.getLsbD_or, causeIf_getLsbD, hbit, wdgCheck_bit p now s hcomm, hraised,
    Bool.and_false, Bool.or_false]

theorem periodCauses_getLsbD (p : Params) (now : Millis) (obs : Obs) (s : State) (k : Nat) :
    (periodCauses p now obs s).getLsbD k =
      (obs.otp && (0x0004 : FaultBits).getLsbD k || obs.ocp && (0x0040 : FaultBits).getLsbD k ||
        obs.opp && (0x0080 : FaultBits).getLsbD k || obs.ext && (0x2000 : FaultBits).getLsbD k ||
        firesAt p s .sensor obs.sensorBad && (0x0008 : FaultBits).getLsbD k ||
        firesAt p s .fan1 obs.fanBad1 && (0x0010 : FaultBits).getLsbD k ||
        firesAt p s .fan2 obs.fanBad2 && (0x0020 : FaultBits).getLsbD k ||
        firesAt p s .fuse1 (obs.fuseBad1 && !fuseGate p now obs s) && (0x0200 : FaultBits).getLsbD k ||
        firesAt p s .fuse2 (obs.fuseBad2 && !fuseGate p now obs s) && (0x0400 : FaultBits).getLsbD k ||
        firesAt p s .fuse3 (obs.fuseBad3 && !fuseGate p now obs s) && (0x0800 : FaultBits).getLsbD k ||
        firesAt p s .fuse4 (obs.fuseBad4 && !fuseGate p now obs s) && (0x1000 : FaultBits).getLsbD k) := by
  simp only [periodCauses, earlyCauses, BitVec.getLsbD_or, causeIf_getLsbD]

/-- Each debounce channel raises its own bit (10_state.md R40). -/
theorem periodCauses_channel_bits (p : Params) (now : Millis) (obs : Obs) (s : State) :
    (periodCauses p now obs s).getLsbD 3 = firesAt p s .sensor obs.sensorBad ∧
    (periodCauses p now obs s).getLsbD 4 = firesAt p s .fan1 obs.fanBad1 ∧
    (periodCauses p now obs s).getLsbD 5 = firesAt p s .fan2 obs.fanBad2 ∧
    (periodCauses p now obs s).getLsbD 9 = firesAt p s .fuse1 (obs.fuseBad1 && !fuseGate p now obs s) ∧
    (periodCauses p now obs s).getLsbD 10 = firesAt p s .fuse2 (obs.fuseBad2 && !fuseGate p now obs s) ∧
    (periodCauses p now obs s).getLsbD 11 = firesAt p s .fuse3 (obs.fuseBad3 && !fuseGate p now obs s) ∧
    (periodCauses p now obs s).getLsbD 12 = firesAt p s .fuse4 (obs.fuseBad4 && !fuseGate p now obs s) := by
  simp only [periodCauses_getLsbD]
  simp

/-! ## A period that raises nothing -/

/-- A debounce step that does not fire, from a state that has moved counters of other channels. -/
theorem debStep_quiet {ch : Channel} {bad : Bool} {cnt : PerChannel Nat} (hcnt : cnt.get ch = s.debCnt.get ch)
    (hquiet : firesAt p s ch bad = false) :
    debStep p ch bad { s with debCnt := cnt } =
      { s with debCnt := cnt.set ch (nextCount p ch bad (s.debCnt.get ch)) } := by
  have hf : debFires p ch bad { s with debCnt := cnt } = false := (debFires_eq_firesAt hcnt).trans hquiet
  rw [debStep_of_not_fires p _ hf, ← hcnt]
  rfl

theorem earlyCauses_eq_zero {obs : Obs} (h : earlyCauses p obs s = 0) :
    (∀ u, protect p obs u = u) ∧ firesAt p s .sensor obs.sensorBad = false ∧ firesAt p s .fan1 obs.fanBad1 = false ∧
      firesAt p s .fan2 obs.fanBad2 = false := by
  have none_raised : ∀ a b : FaultBits, a ||| b = 0 ↔ a = 0 ∧ b = 0 := fun _ _ => BitVec.or_eq_zero_iff
  simp only [earlyCauses, none_raised] at h
  obtain ⟨⟨⟨⟨⟨⟨hotp, hocp⟩, hopp⟩, hext⟩, hsensor⟩, hfan1⟩, hfan2⟩ := h
  rw [causeIf_eq_zero (by decide)] at hotp hocp hopp hext hsensor hfan1 hfan2
  exact ⟨fun u => by simp [protect, protectOne, hotp, hocp, hopp, hext], hsensor, hfan1, hfan2⟩

theorem periodChecks_quiet {now : Millis} {obs : Obs} (hexp : wdgExpired p now s = false)
    (hearly : earlyCauses p obs s = 0)
    (hfuse1 : firesAt p s .fuse1 (obs.fuseBad1 && !fuseGate p now obs s) = false)
    (hfuse2 : firesAt p s .fuse2 (obs.fuseBad2 && !fuseGate p now obs s) = false)
    (hfuse3 : firesAt p s .fuse3 (obs.fuseBad3 && !fuseGate p now obs s) = false)
    (hfuse4 : firesAt p s .fuse4 (obs.fuseBad4 && !fuseGate p now obs s) = false) :
    periodChecks p now obs s = { s with debCnt := (periodChecks p now obs s).debCnt } := by
  obtain ⟨hprotect, hsensor, hfan1, hfan2⟩ := earlyCauses_eq_zero hearly
  have hwdg : wdgCheck p now s = { s with debCnt := s.debCnt } := if_neg (by simp [hexp])
  rw [periodChecks_eq_gated, earlyState, hprotect, hwdg, debStep_quiet _ hsensor, debStep_quiet _ hfan1,
    debStep_quiet _ hfan2, debStep_quiet _ hfuse1, debStep_quiet _ hfuse2, debStep_quiet _ hfuse3,
    debStep_quiet _ hfuse4] <;> rfl

/-- The regulation step of a quiet period. -/
theorem period_quiet {now : Millis} {v c : Measure} {obs : Obs} {cnt : PerChannel Nat}
    (hchecks : periodChecks p now obs s = { s with debCnt := cnt }) (hcnt : cnt.reg = s.debCnt.reg)
    (hreg : s.enabled = true → firesAt p s .reg (regBad p v c s) = false) :
    period p now v c obs s =
      { s with debCnt :=
        { cnt with reg := if s.enabled then nextCount p .reg (regBad p v c s) s.debCnt.reg else s.debCnt.reg } } := by
  simp only [period, hchecks]
  by_cases hon : s.enabled = true
  · rw [if_pos hon, if_pos hon]
    exact debStep_quiet hcnt (hreg hon)
  · rw [if_neg hon, if_neg hon, ← hcnt]

/-! ## The obligations -/

/-- Settles O37: each debounce step of the period reads the counters of the state before it, and the fuse channels read
one gate. -/
theorem periodStepsEachDebounceChannel : Obligations.PeriodStepsEachDebounceChannel := by
  intro now v c obs s
  have count : ∀ ch, ch ≠ .reg → (period Config.params now v c obs s).debCnt.get ch =
      (periodChecks Config.params now obs s).debCnt.get ch := fun ch h => period_get_of_ne_reg _ now v c obs s h
  have bit : ∀ k, k ≠ 0 → k ≠ 8 → ∀ raised, (periodCauses Config.params now obs s).getLsbD k = raised →
      (period Config.params now v c obs s).fault.getLsbD k = (s.fault.getLsbD k || raised) := fun k h0 h8 raised =>
    period_bit _ now v c obs s h0 h8
  simp only [periodChecks_debCnt] at count
  obtain ⟨b3, b4, b5, b9, b10, b11, b12⟩ := periodCauses_channel_bits Config.params now obs s
  refine ⟨⟨_, rfl, count .sensor nofun, count .fan1 nofun, count .fan2 nofun, count .fuse1 nofun, count .fuse2 nofun,
    count .fuse3 nofun, count .fuse4 nofun, bit 3 nofun nofun _ b3, bit 4 nofun nofun _ b4, bit 5 nofun nofun _ b5,
    bit 9 nofun nofun _ b9, bit 10 nofun nofun _ b10, bit 11 nofun nofun _ b11, bit 12 nofun nofun _ b12⟩, ?quiet⟩
  case quiet =>
    intro hexp hearly hfuse1 hfuse2 hfuse3 hfuse4 hreg
    have hchecks := periodChecks_quiet (p := Config.params) hexp hearly hfuse1 hfuse2 hfuse3 hfuse4
    rw [periodChecks_debCnt] at hchecks
    exact congrArg Host.Outcome.next (period_quiet hchecks rfl hreg)

theorem fuseGate_of_ungated {now : Millis} {obs : Obs} (h : p.FUSE_TRANSIENT_GATE = false ∨ s.transient = false) :
    fuseGate p now obs s = false := by
  obtain h | h := h <;> simp [fuseGate, h]

/-- Settles O38: each of the eleven observations raises its bit in the period, and a raised bit trips. -/
theorem protectionsTripWithinPeriod : Obligations.ProtectionsTripWithinPeriod := by
  intro now v c obs s
  refine ⟨period Config.params now v c obs s, rfl, fun k hk => ?_⟩
  have hraised : (periodCauses Config.params now obs s).getLsbD k = true := by
    rw [periodCauses_getLsbD]
    obtain ⟨rfl, h⟩ | ⟨rfl, h⟩ | ⟨rfl, h⟩ | ⟨rfl, h⟩ | ⟨rfl, h, hdue⟩ | ⟨rfl, h, hdue⟩ | ⟨rfl, h, hdue⟩ |
      ⟨rfl, h, hgate, hdue⟩ | ⟨rfl, h, hgate, hdue⟩ | ⟨rfl, h, hgate, hdue⟩ | ⟨rfl, h, hgate, hdue⟩ := hk
    · simp [h]
    · simp [h]
    · simp [h]
    · simp [h]
    · simp [firesAt, h, hdue]
    · simp [firesAt, h, hdue]
    · simp [firesAt, h, hdue]
    · simp [firesAt, h, hdue, fuseGate_of_ungated hgate]
    · simp [firesAt, h, hdue, fuseGate_of_ungated hgate]
    · simp [firesAt, h, hdue, fuseGate_of_ungated hgate]
    · simp [firesAt, h, hdue, fuseGate_of_ungated hgate]
  obtain ⟨reg, h⟩ := raisedEvaluated_period Config.params now v c obs s
  have htrip := h.trips (k := k) (by rw [BitVec.getLsbD_or, hraised, Bool.true_or])
  rwa [wdgCheck_faultMask] at htrip

end Sys2Proof.Proofs
end

section
/-! The frame of the protocol engine (41_protocol_engine.md, opening text; 20_memory.md R94): every receive and transmit
row, event and wire command is a run of received bytes and transmit-empty events, and these touch the engine, the
producer side of the queue and port tx only. -/

namespace Sys2Proof.Proofs

open Sys2Proof.Machine

variable {s t u : State}

/-- `s` with the engine's registers, the producer side of the queue and the transmit log of `u`. -/
def withEngine (s u : State) : State :=
  { s with
    pstate := u.pstate, facc := u.facc, rlat := u.rlat, txeEn := u.txeEn, qbuf := u.qbuf, qWr := u.qWr,
    qFull := u.qFull, tx := u.tx }

/-- `t` is `s` but for the engine, the producer side of the queue and the transmit log. -/
def EngineOnly (s t : State) : Prop := t = withEngine s t

theorem EngineOnly.refl (s : State) : EngineOnly s s := rfl

theorem EngineOnly.trans (hst : EngineOnly s t) (htu : EngineOnly t u) : EngineOnly s u := by
  unfold EngineOnly at hst htu ⊢
  rw [hst] at htu
  exact htu

theorem EngineOnly.of_eq_or_eq (h : u = t ∨ u = s) (ht : EngineOnly s t) : EngineOnly s u := by
  obtain rfl | rfl := h
  · exact ht
  · exact .refl _

theorem engineOnly_queuePush (p : Params) (w : FrameWord) (s : State) : EngineOnly s (queuePush p w s) := by
  obtain ⟨-, h⟩ | ⟨-, h⟩ := queuePush_cases p s w <;> rw [h] <;> rfl

theorem engineOnly_receive (p : Params) (b : Byte) (s : State) : EngineOnly s (receive p b s) := by
  obtain h | ⟨-, h⟩ | ⟨-, h⟩ | ⟨-, h⟩ | ⟨-, h⟩ | ⟨-, h⟩ | ⟨-, h⟩ := receive_cases p s b <;> rw [h]
  case inr.inr.inr.inr.inr.inr => exact (engineOnly_queuePush p _ s).trans rfl
  all_goals rfl

theorem engineOnly_transmit (s : State) : EngineOnly s (transmit s) := by
  obtain ⟨-, -, h⟩ | ⟨-, -, h⟩ | ⟨-, -, h⟩ | ⟨-, h⟩ := transmit_cases s <;> rw [h] <;> rfl

theorem engineOnly_receiveAll (p : Params) (bytes : List Byte) (s : State) : EngineOnly s (receiveAll p bytes s) :=
  receiveAll_keeps (P := EngineOnly s) (fun b u hu => hu.trans (engineOnly_receive p b u)) bytes s (.refl s)

theorem engineOnly_wireRead (p : Params) (a : Addr) (s : State) : EngineOnly s (wireRead p a s) :=
  (((engineOnly_receiveAll p (readBytes a) s).trans (engineOnly_transmit _)).trans
    (engineOnly_transmit _)).trans (engineOnly_transmit _)

/-- Settles O12: a row is a byte or a transmit-empty event or no change, and a wire command is a run of these. -/
theorem engineLeavesSupervisorAlone : Obligations.EngineLeavesSupervisorAlone := by
  intro i s hi
  suffices h : ∃ t, exec i s = .next t ∧ EngineOnly s t from h
  obtain ⟨rSync, rRead, rWrite, rHi, rLo, rCheck⟩ := rxRow_cases Config.params s
  obtain ⟨tHi, tLo, tCk⟩ := txRow_cases s
  have rx : ∀ b, EngineOnly s (receive Config.params b s) := fun b => engineOnly_receive _ b s
  have tx : EngineOnly s (transmit s) := engineOnly_transmit s
  obtain rfl | ⟨b, rfl⟩ | ⟨a, rfl⟩ | ⟨a, rfl⟩ | ⟨d, rfl⟩ | ⟨d, rfl⟩ | ⟨c, rfl⟩ | ⟨b, rfl⟩ | rfl | rfl | rfl |
    ⟨a, d, c, rfl⟩ | ⟨a, rfl⟩ | ⟨b, rfl⟩ | rfl := hi <;> refine ⟨_, rfl, ?_⟩
  · exact .of_eq_or_eq rSync (rx _)
  · exact .refl s
  · exact .of_eq_or_eq (rRead a) (rx _)
  · exact .of_eq_or_eq (rWrite a) (rx _)
  · exact .of_eq_or_eq (rHi d) (rx _)
  · exact .of_eq_or_eq (rLo d) (rx _)
  · exact .of_eq_or_eq (rCheck c) (rx _)
  · exact .refl s
  · exact .of_eq_or_eq tHi tx
  · exact .of_eq_or_eq tLo tx
  · exact .of_eq_or_eq tCk tx
  · exact engineOnly_receiveAll _ (writeBytes a d c) s
  · exact engineOnly_wireRead _ a s
  · exact rx b
  · exact tx

end Sys2Proof.Proofs
end

section
/-! FAULT and FAULT_MASK under the events outside the supervisor (20_memory.md R94): a byte, a transmit-empty event and a
publish reach the serial side only, a sample and a slew tick the load only. -/

namespace Sys2Proof.Proofs

open Sys2Proof.Machine

variable {s t : State}

theorem SerialOnly.faultMask (h : SerialOnly s t) : t.faultMask = s.faultMask := by
  unfold SerialOnly at h
  rw [h]
  rfl

theorem sample_faultMask (p : Params) (s : State) (v c : Measure) : (sample p v c s).faultMask = s.faultMask := by
  obtain he | ⟨-, -, m, e, u, he⟩ := sample_cases p s v c <;> rw [he]
  rfl

theorem slewTick_faultMask (p : Params) (s : State) : (slewTick p s).faultMask = s.faultMask := by
  obtain ⟨-, he⟩ | ⟨-, -, -, he⟩ | ⟨-, -, he⟩ | ⟨-, -, he⟩ := slewTick_cases p s <;> rw [he]

/-- Settles O27: three of the events reach the serial side only, and the other three write load registers or `ready`. -/
theorem interruptEventsLeaveFaultsAlone : Obligations.InterruptEventsLeaveFaultsAlone := by
  intro i s t hi hexec
  have serial : ∀ {u : State}, SerialOnly s u → u.fault = s.fault ∧ u.faultMask = s.faultMask := fun h =>
    ⟨h.fault, h.faultMask⟩
  obtain ⟨b, rfl⟩ | rfl | ⟨v, c, rfl⟩ | rfl | ⟨a, v, rfl⟩ | ⟨r, rfl⟩ := hi <;> obtain rfl := next_inj hexec
  · exact serial (serialOnly_receive _ b s)
  · exact serial (serialOnly_transmit s)
  · exact ⟨sample_fault _ s v c, sample_faultMask _ s v c⟩
  · exact ⟨slewTick_fault _ s, slewTick_faultMask _ s⟩
  · exact serial (tablePublish_eq_withSerial _ s a v)
  · exact ⟨setReady_fault s r, setReady_faultMask s r⟩

end Sys2Proof.Proofs
end

section
/-! The dispatch map of a frame word (30_encoding.md R119) as a table from block address to frame command. -/

namespace Sys2Proof.Proofs

open Sys2Proof.Machine

variable {p : Params} {w : FrameWord} {a : Addr} {row : Data → FrameCommand}

/-- The ten block addresses with the frame command each selects, in the order `decodeFrame` tries them. -/
def blockRows (p : Params) : List (Addr × (Data → FrameCommand)) :=
  [(p.ADDR_ENABLE, .enable), (p.ADDR_MODE, .mode), (p.ADDR_SP_CC, .spCc), (p.ADDR_SP_CV, .spCv),
    (p.ADDR_SP_CR, .spCr), (p.ADDR_SP_CP, .spCp), (p.ADDR_FAULT, .faultClear), (p.ADDR_FAULT_MASK, .faultMask),
    (p.ADDR_WDG, .wdg), (p.ADDR_STATUS, .status)]

theorem blockRows_mem (p : Params) :
    (p.ADDR_ENABLE, .enable) ∈ blockRows p ∧ (p.ADDR_MODE, .mode) ∈ blockRows p ∧
    (p.ADDR_SP_CC, .spCc) ∈ blockRows p ∧ (p.ADDR_SP_CV, .spCv) ∈ blockRows p ∧
    (p.ADDR_SP_CR, .spCr) ∈ blockRows p ∧ (p.ADDR_SP_CP, .spCp) ∈ blockRows p ∧
    (p.ADDR_FAULT, .faultClear) ∈ blockRows p ∧ (p.ADDR_FAULT_MASK, .faultMask) ∈ blockRows p ∧
    (p.ADDR_WDG, .wdg) ∈ blockRows p ∧ (p.ADDR_STATUS, .status) ∈ blockRows p := by
  simp [blockRows]

/-- The addresses of the table are those `Params` holds distinct and below N_REGS, in another order. -/
theorem blockRows_addrs_perm (p : Params) :
    [p.ADDR_STATUS, p.ADDR_FAULT, p.ADDR_FAULT_MASK, p.ADDR_ENABLE, p.ADDR_WDG, p.ADDR_MODE,
      p.ADDR_SP_CC, p.ADDR_SP_CV, p.ADDR_SP_CR, p.ADDR_SP_CP].Perm ((blockRows p).map Prod.fst) := by
  refine List.perm_iff_count.mpr fun a => ?_
  simp only [blockRows, List.map_cons, List.map_nil, List.count_cons, List.count_nil]
  omega

theorem blockRows_addrs_nodup (p : Params) : ((blockRows p).map Prod.fst).Nodup :=
  (blockRows_addrs_perm p).nodup p.addrs_distinct

theorem blockRows_addr_valid (h : (a, row) ∈ blockRows p) : a.toNat < p.N_REGS :=
  p.addrs_valid a ((blockRows_addrs_perm p).mem_iff.mpr (List.mem_map_of_mem h))

theorem isBlockAddr_iff_mem : isBlockAddr p a = true ↔ a ∈ (blockRows p).map Prod.fst := by
  rw [← (blockRows_addrs_perm p).mem_iff]
  simp only [isBlockAddr, isMirror, Bool.or_eq_true, beq_iff_eq, List.mem_cons, List.not_mem_nil, or_false]
  tauto

/-- A block address selects one row, because the ten addresses are distinct. -/
theorem lookup_blockRows_of_mem (h : (a, row) ∈ blockRows p) : (blockRows p).lookup a = some row := by
  obtain ⟨before, after, hsplit⟩ := List.append_of_mem h
  refine List.lookup_eq_some_iff.mpr ⟨before, after, hsplit, fun c hc => ?_⟩
  have hnodup := blockRows_addrs_nodup p
  rw [hsplit, List.map_append, List.nodup_append] at hnodup
  obtain ⟨-, -, hdisjoint⟩ := hnodup
  exact bne_iff_ne.mpr (hdisjoint c.1 (List.mem_map_of_mem hc) a (by simp)).symm

theorem decodeFrame_of_badCode (p : Params) (hcode : frameOk w = false) :
    decodeFrame p w = .badCode (frameAddr w) (frameData w) (frameCode w) := by
  simp [decodeFrame, hcode]

theorem decodeFrame_of_invalid (hcode : frameOk w = true) (hinvalid : p.N_REGS ≤ (frameAddr w).toNat) :
    decodeFrame p w = .invalidAddr (frameAddr w) (frameData w) := by
  simp [decodeFrame, hcode, validAddr, hinvalid]

theorem getD_lookup_cons (k : Addr) (row other : Data → FrameCommand) (rest : List (Addr × (Data → FrameCommand))) :
    (((k, row) :: rest).lookup a).getD other = if a = k then row else (rest.lookup a).getD other := by
  by_cases h : a = k
  · simp [h]
  · simp [List.lookup_cons, h, beq_false_of_ne h]

/-- The address cascade of `decodeFrame` is the lookup in the table. -/
theorem decodeFrame_of_valid (hcode : frameOk w = true) (hvalid : (frameAddr w).toNat < p.N_REGS) :
    decodeFrame p w =
      (((blockRows p).lookup (frameAddr w)).getD (.external (frameAddr w))) (frameData w) := by
  simp only [decodeFrame, hcode, validAddr, hvalid, decide_true, Bool.not_true, Bool.false_eq_true, if_false, blockRows,
    getD_lookup_cons, List.lookup_nil, Option.getD_none, ite_apply]

theorem decodeFrame_of_blockAddr (hcode : frameOk w = true) (h : (frameAddr w, row) ∈ blockRows p) :
    decodeFrame p w = row (frameData w) := by
  rw [decodeFrame_of_valid hcode (blockRows_addr_valid h), lookup_blockRows_of_mem h]
  rfl

theorem decodeFrame_of_external (hcode : frameOk w = true) (hvalid : (frameAddr w).toNat < p.N_REGS)
    (h : frameAddr w ∉ (blockRows p).map Prod.fst) :
    decodeFrame p w = .external (frameAddr w) (frameData w) := by
  have hnone : (blockRows p).lookup (frameAddr w) = none := by
    refine List.lookup_eq_none_iff.mpr fun c hc => bne_iff_ne.mpr ?_
    intro heq
    exact h (heq ▸ List.mem_map_of_mem hc)
  rw [decodeFrame_of_valid hcode hvalid, hnone]
  rfl

/-- Settles O20: the code is looked at first, then the range, then the table, whose addresses are distinct. -/
theorem dispatchMapFollowsAddress : Obligations.DispatchMapFollowsAddress := by
  intro p now w
  refine ⟨fun hbad => congrArg (instrOfFrame now) (decodeFrame_of_badCode p hbad), fun hcode => ?_⟩
  have block : ∀ {a : Addr} {row : Data → FrameCommand}, (a, row) ∈ blockRows p → frameAddr w = a →
      instrOfFrame now (decodeFrame p w) = instrOfFrame now (row (frameData w)) := fun hmem ha =>
    congrArg (instrOfFrame now) (decodeFrame_of_blockAddr hcode (ha ▸ hmem))
  obtain ⟨hEnable, hMode, hSpCc, hSpCv, hSpCr, hSpCp, hFault, hMask, hWdg, hStatus⟩ := blockRows_mem p
  exact ⟨fun hinvalid => congrArg (instrOfFrame now) (decodeFrame_of_invalid hcode hinvalid), block hEnable, block hMode,
    block hSpCc, block hSpCv, block hSpCr, block hSpCp, block hFault, block hMask, block hWdg, block hStatus,
    fun hvalid hother => congrArg (instrOfFrame now) (decodeFrame_of_external hcode hvalid hother)⟩

end Sys2Proof.Proofs
end

section
/-! The decoder against the encoder (30_encoding.md R112 to R120), format by format. -/

namespace Sys2Proof.Proofs

open Sys2Proof.Machine

variable {p : Params} {a : Addr} {row : Data → FrameCommand}

theorem decodeRx_readAddr (a : Addr) : decodeRx .addr (addrByte 1 a) = .readAddr a := by
  simp [decodeRx, isReadByte_addrByte, byteAddr_addrByte]

theorem decodeRx_writeAddr (a : Addr) : decodeRx .addr (addrByte 0 a) = .writeAddr a := by
  simp [decodeRx, isReadByte_addrByte, byteAddr_addrByte]

theorem decodeRx_sync_other {b : Byte} (hb : b ≠ syncByte) : decodeRx .sync b = .discardSync b := if_neg hb

theorem decodeWire_writeBytes (a : Addr) (d : Data) (c : Byte) :
    decodeWire (writeBytes a d c) = .ok (.writeFrame a d c) := by
  simp [decodeWire, writeBytes, isReadByte_addrByte, byteAddr_addrByte, dataOfBytes_high_low]

theorem decodeWire_readBytes (a : Addr) : decodeWire (readBytes a) = .ok (.readFrame a) := by
  simp [decodeWire, readBytes, isReadByte_addrByte, byteAddr_addrByte]

/-- A frame word built by the encoder is not rejected, because its bit 31 is 0. -/
theorem decode_frameOf (p : Params) (now : Millis) (a : Addr) (d : Data) (c : Byte) :
    decode (.frameWord now (frameOf a d c)) p = .ok (instrOfFrame now (decodeFrame p (frameOf a d c))) := by
  simp [decode, msb_frameOf]

theorem decode_goodFrame (p : Params) (now : Millis) (a : Addr) (d : Data) :
    decode (.frameWord now (goodFrame a d)) p = .ok (instrOfFrame now (decodeFrame p (goodFrame a d))) :=
  decode_frameOf p now a d (writeCode a d)

theorem decode_goodFrame_of_blockAddr (now : Millis) (d : Data) (h : (a, row) ∈ blockRows p) :
    decode (.frameWord now (goodFrame a d)) p = .ok (instrOfFrame now (row d)) := by
  have hmem : (frameAddr (goodFrame a d), row) ∈ blockRows p := by rwa [frameAddr_goodFrame]
  rw [decode_goodFrame, decodeFrame_of_blockAddr (frameOk_goodFrame a d) hmem, frameData_goodFrame]

theorem decode_goodFrame_of_external (now : Millis) (d : Data) (hvalid : validAddr p a = true)
    (hother : isBlockAddr p a = false) : decode (.frameWord now (goodFrame a d)) p = .ok (.wrExternal a d) := by
  have hrange : (frameAddr (goodFrame a d)).toNat < p.N_REGS := by simpa [frameAddr_goodFrame, validAddr] using hvalid
  have hmem : frameAddr (goodFrame a d) ∉ (blockRows p).map Prod.fst := by
    rw [frameAddr_goodFrame, ← isBlockAddr_iff_mem, hother]
    exact Bool.false_ne_true
  rw [decode_goodFrame, decodeFrame_of_external (frameOk_goodFrame a d) hrange hmem,
    frameAddr_goodFrame, frameData_goodFrame, instrOfFrame]

theorem decode_goodFrame_of_invalid (now : Millis) (d : Data) (hinvalid : validAddr p a = false) :
    decode (.frameWord now (goodFrame a d)) p = .ok (.wrInvalidAddr a d) := by
  have hrange : p.N_REGS ≤ (frameAddr (goodFrame a d)).toNat := by
    simpa [frameAddr_goodFrame, validAddr] using hinvalid
  rw [decode_goodFrame, decodeFrame_of_invalid (frameOk_goodFrame a d) hrange, frameAddr_goodFrame,
    frameData_goodFrame, instrOfFrame]

theorem decode_frameOf_of_badCode (p : Params) (now : Millis) (d : Data) {c : Byte} (hc : c ≠ writeCode a d) :
    decode (.frameWord now (frameOf a d c)) p = .ok (.wrBadCode a d c) := by
  have hcode : frameOk (frameOf a d c) = false := by
    rw [frameOk_frameOf]
    exact beq_false_of_ne hc.symm
  rw [decode_frameOf, decodeFrame_of_badCode p hcode, frameAddr_frameOf, frameData_frameOf, frameCode_frameOf,
    instrOfFrame]

/-- Settles O59: each row's encoding carries what the decoder looks at, and the conditions of `wellFormed` are the ones
that tell RX_DISCARD_SYNC, WR_EXTERNAL, WR_BAD_CODE and WR_INVALID_ADDR from the rows they share a format with. -/
theorem decodeInvertsEncode : Obligations.DecodeInvertsEncode := by
  intro p i hwf
  obtain ⟨hEnable, hMode, hSpCc, hSpCv, hSpCr, hSpCp, hFault, hMask, hWdg, hStatus⟩ := blockRows_mem p
  have rx : ∀ {ps : PState} {b : Byte} {c : RxCommand}, decodeRx ps b = c →
      decode (.rxByte ps b) p = .ok (instrOfRx c) := fun h => congrArg (fun c => Except.ok (instrOfRx c)) h
  cases i with
  | sync => rfl
  | rxDiscardSync b => exact rx (decodeRx_sync_other (by simpa [Instr.wellFormed] using hwf))
  | readAddr a => exact rx (decodeRx_readAddr a)
  | writeAddr a => exact rx (decodeRx_writeAddr a)
  | dataHi d => rfl
  | dataLo d => rfl
  | checksum c => rfl
  | rxDiscardTx b => rfl
  | txHi => rfl
  | txLo => rfl
  | txCk => rfl
  | writeFrame a d c => exact decodeWire_writeBytes a d c
  | readFrame a => exact decodeWire_readBytes a
  | wrEnable d now => exact decode_goodFrame_of_blockAddr now d hEnable
  | wrMode d => exact decode_goodFrame_of_blockAddr 0 d hMode
  | wrSpCc d => exact decode_goodFrame_of_blockAddr 0 d hSpCc
  | wrSpCv d => exact decode_goodFrame_of_blockAddr 0 d hSpCv
  | wrSpCr d => exact decode_goodFrame_of_blockAddr 0 d hSpCr
  | wrSpCp d => exact decode_goodFrame_of_blockAddr 0 d hSpCp
  | wrFaultClear d => exact decode_goodFrame_of_blockAddr 0 d hFault
  | wrFaultMask d => exact decode_goodFrame_of_blockAddr 0 d hMask
  | wrWdg d now => exact decode_goodFrame_of_blockAddr now d hWdg
  | wrStatus d => exact decode_goodFrame_of_blockAddr 0 d hStatus
  | wrExternal a d =>
    obtain ⟨hvalid, hother⟩ : validAddr p a = true ∧ isBlockAddr p a = false := by simpa [Instr.wellFormed] using hwf
    exact decode_goodFrame_of_external 0 d hvalid hother
  | wrBadCode a d c => exact decode_frameOf_of_badCode p 0 d (by simpa [Instr.wellFormed] using hwf)
  | wrInvalidAddr a d => exact decode_goodFrame_of_invalid 0 d (by simpa [Instr.wellFormed] using hwf)
  | evRx b => rfl
  | evTxe => rfl
  | evPublish a v => rfl
  | evDequeue now => rfl
  | evPeriod now v c obs => rfl
  | evSample v c => rfl
  | evSlewTick => rfl
  | evSetReady r => rfl
  | evReset => rfl

/-- Settles O60: the frame word's code is wrong, so its row does not depend on the parameters' addresses. -/
theorem writtenWordsDecode : Obligations.WrittenWordsDecode := by
  refine ⟨rfl, rfl, rfl, rfl, rfl, ?frame, rfl⟩
  case frame =>
    have hword : (0b00000101000100100011010011011101 : FrameWord) = frameOf 5 0x1234 0xDD := by decide
    have hcode : (0xDD : Byte) ≠ writeCode 5 0x1234 := by decide
    rw [hword]
    exact decode_frameOf_of_badCode Config.params 7 0x1234 hcode

end Sys2Proof.Proofs
end

section
/-! Received bytes, transmit-empty events and wire commands (30_encoding.md R113, R115, R118, R120). -/

namespace Sys2Proof.Proofs

open Sys2Proof.Machine

variable {s : State}

/-! ## One event -/

theorem transmit_of_closed_gate (hgate : s.txeEn = false) : transmit s = s := by
  obtain ⟨hopen, -⟩ | ⟨hopen, -⟩ | ⟨hopen, -⟩ | ⟨-, h⟩ := transmit_cases s
  case inr.inr.inr => exact h
  all_goals simp [hgate] at hopen

theorem slewTick_of_closed_gate (p : Params) (hgate : s.slewRun = false) : slewTick p s = s := by
  obtain ⟨-, h⟩ | ⟨hopen, -⟩ | ⟨hopen, -⟩ | ⟨hopen, -⟩ := slewTick_cases p s
  case inl => exact h
  all_goals simp [hgate] at hopen

/-- Settles O7: a closed gate is one case of all either event can do. -/
theorem closedGatesChangeNothing : Obligations.ClosedGatesChangeNothing := fun s =>
  ⟨fun hgate => congrArg Host.Outcome.next (transmit_of_closed_gate hgate),
    fun hgate => congrArg Host.Outcome.next (slewTick_of_closed_gate (s := s) Config.params hgate)⟩

/-- EV_TXE runs the row the decode map gives (30_encoding.md R118). -/
theorem exec_evTxe {c : TxCommand} (h : decodeTx s.pstate = some c) : exec .evTxe s = exec (instrOfTx c) s := by
  simp only [exec, execEvTxe, transmit, h]
  cases c <;> rfl

/-- Settles O8: the map by protocol state, then that each event runs the row it gives. -/
theorem receivedByteRunsDecodedRow : Obligations.ReceivedByteRunsDecodedRow := by
  refine ⟨fun b => ?sync, fun a => congrArg instrOfRx (decodeRx_readAddr a),
    fun a => congrArg instrOfRx (decodeRx_writeAddr a), fun _ => rfl, fun _ => rfl, fun _ => rfl, fun b ps hps => ?tx,
    exec_evRx, fun s hps => exec_evTxe (by rw [hps]; rfl), fun s hps => exec_evTxe (by rw [hps]; rfl),
    fun s hps => exec_evTxe (by rw [hps]; rfl)⟩
  case sync => exact apply_ite instrOfRx (b = syncByte) _ _
  case tx => obtain rfl | rfl | rfl := hps <;> rfl

theorem transmit_hi (hgate : s.txeEn = true) (hps : s.pstate = .thi) :
    transmit s = { s with tx := s.tx ++ [s.rlat.extractLsb' 16 8], pstate := .tlo } := by
  simp [transmit, decodeTx, txHi, emitTx, hgate, hps]

theorem transmit_lo (hgate : s.txeEn = true) (hps : s.pstate = .tlo) :
    transmit s = { s with tx := s.tx ++ [s.rlat.extractLsb' 8 8], pstate := .tck } := by
  simp [transmit, decodeTx, txLo, emitTx, hgate, hps]

theorem transmit_ck (hgate : s.txeEn = true) (hps : s.pstate = .tck) :
    transmit s = { s with tx := s.tx ++ [s.rlat.extractLsb' 0 8], pstate := .sync, txeEn := false } := by
  simp [transmit, decodeTx, txCk, emitTx, hgate, hps]

/-! ## Wire commands -/

/-- Settles O9: `wireWrite` and `wireRead` apply `receive` and `transmit` once for each event, in this order. -/
theorem wireCommandsAreTheirEvents : Obligations.WireCommandsAreTheirEvents :=
  ⟨fun _ _ _ _ => ⟨_, _, _, _, _, rfl, rfl, rfl, rfl, rfl, rfl⟩,
    fun _ _ => ⟨_, _, _, _, _, rfl, rfl, rfl, rfl, rfl, rfl⟩⟩

/-- The frame word as fields: DIR, address, data, code (30_encoding.md R114). -/
theorem frameOf_eq_append (a : Addr) (d : Data) (c : Byte) : frameOf a d c = (0 : BitVec 1) ++ a ++ d ++ c := by
  apply BitVec.eq_of_getLsbD_eq
  intro i hi
  simp only [frameOf, frameOfBytes, addrByte, dataHigh, dataLow, BitVec.getLsbD_append, BitVec.getLsbD_extractLsb']
  interval_cases i <;> simp

/-- What CHECKSUM queues once `facc` holds an address and a data word (41_protocol_engine.md R166). -/
theorem accumulated_frame (a : Addr) (d : Data) (x c : Byte) :
    ((0 : BitVec 1) ++ a ++ d ++ x : BitVec 32).extractLsb' 8 24 ++ c = frameOf a d c := by
  have hfields : ((0 : BitVec 1) ++ a ++ d ++ x : BitVec 32).extractLsb' 8 24 = (0 : BitVec 1) ++ a ++ d :=
    BitVec.extractLsb'_append_eq_left
  rw [hfields, frameOf_eq_append]

/-- The first four bytes of a write command leave its address and data in `facc` (41_protocol_engine.md R163 to
R165). -/
theorem receiveAll_writeHeader (p : Params) (a : Addr) (d : Data) (h : s.pstate = .sync) :
    receiveAll p [syncByte, addrByte 0 a, dataHigh d, dataLow d] s =
      { s with facc := (0 : BitVec 1) ++ a ++ d ++ s.facc.extractLsb' 0 8, pstate := .ck } := by
  simp only [receiveAll, receive_sync p h, receive_writeAddr, receive_dataHi, receive_dataLo, assembled_facc]

theorem queuePush_pstate_comm (p : Params) (w : FrameWord) (ps : PState) (s : State) :
    { queuePush p w s with pstate := ps } = queuePush p w { s with pstate := ps } := by
  by_cases hfull : s.qFull = true <;> simp [queuePush, hfull]

/-- A write command met in S_SYNC is one push of its frame word, and its address and data stay in `facc`. -/
theorem wireWrite_of_sync (p : Params) (a : Addr) (d : Data) (c : Byte) (h : s.pstate = .sync) :
    wireWrite p a d c s =
      queuePush p (frameOf a d c) { s with facc := (0 : BitVec 1) ++ a ++ d ++ s.facc.extractLsb' 0 8 } := by
  calc wireWrite p a d c s
      = receive p c (receiveAll p [syncByte, addrByte 0 a, dataHigh d, dataLow d] s) := rfl
    _ = receive p c { s with facc := (0 : BitVec 1) ++ a ++ d ++ s.facc.extractLsb' 0 8, pstate := .ck } := by
      rw [receiveAll_writeHeader p a d h]
    _ = queuePush p (frameOf a d c)
          { s with facc := (0 : BitVec 1) ++ a ++ d ++ s.facc.extractLsb' 0 8, pstate := .sync } := by
      rw [receive_checksum p c rfl, queuePush_pstate_comm, accumulated_frame]
    _ = queuePush p (frameOf a d c) { s with facc := (0 : BitVec 1) ++ a ++ d ++ s.facc.extractLsb' 0 8 } := by
      rw [← h]

/-- A push into a queue with room moves the producer side only (42_write_queue.md R190). -/
theorem queuePush_eq_of_room (p : Params) (w : FrameWord) (hroom : s.qFull = false) :
    queuePush p w s =
      { s with
        qbuf := (queuePush p w s).qbuf, qWr := (s.qWr + 1) % p.QCAP,
        qFull := decide ((s.qWr + 1) % p.QCAP = s.qRd) } := by
  simp [queuePush, hroom, beq_eq_decide]

/-- Settles O10: the five bytes are one push, of the frame word they carry. -/
theorem writeFrameIsQueuedAsReceived : Obligations.WriteFrameIsQueuedAsReceived := by
  intro a d c s hps hroom
  refine ⟨_, congrArg Host.Outcome.next (wireWrite_of_sync Config.params a d c hps), ?frame, ?slot, fun k hk => ?other⟩
  case frame => exact queuePush_eq_of_room _ _ hroom
  case slot =>
    rw [← frameOf_eq_append a d c]
    exact queueSlot_push_same _ _ _ hroom
  case other => exact queueSlot_push_other _ _ _ hk

/-- The bytes that the transmit rows cut from a latched reply (41_protocol_engine.md R168 to R170). -/
theorem tableLookup_bytes (p : Params) (a : Addr) (s : State) :
    (tableLookup p a s).extractLsb' 16 8 = dataHigh (s.tableVal a p) ∧
    (tableLookup p a s).extractLsb' 8 8 = dataLow (s.tableVal a p) ∧
    (tableLookup p a s).extractLsb' 0 8 = entryCode p a (s.tableVal a p) := by
  exact ⟨(BitVec.extractLsb'_append_eq_of_le (by decide)).trans BitVec.extractLsb'_append_eq_left,
    (BitVec.extractLsb'_append_eq_of_le (by decide)).trans BitVec.extractLsb'_append_eq_right,
    BitVec.extractLsb'_append_eq_right⟩

/-- A read command met in S_SYNC latches the reply and opens the transmit gate (41_protocol_engine.md R162). -/
theorem receiveAll_readBytes (p : Params) (a : Addr) (h : s.pstate = .sync) :
    receiveAll p (readBytes a) s = { s with rlat := tableLookup p a s, pstate := .thi, txeEn := true } := by
  simp only [readBytes, receiveAll, receive_sync p h]
  exact receive_readAddr p rfl

/-- Three transmit-empty events send a latched reply and close the gate (41_protocol_engine.md R168 to R170). -/
theorem transmit_reply (hgate : s.txeEn = true) (hps : s.pstate = .thi) :
    transmit (transmit (transmit s)) =
      { s with
        tx := s.tx ++ [s.rlat.extractLsb' 16 8, s.rlat.extractLsb' 8 8, s.rlat.extractLsb' 0 8], pstate := .sync,
        txeEn := false } := by
  simp [transmit_hi hgate hps, transmit_lo, transmit_ck, hgate]

/-- A read command met in S_SYNC latches the reply, sends its three bytes and leaves the engine in S_SYNC. -/
theorem wireRead_of_sync (p : Params) (a : Addr) (h : s.pstate = .sync) :
    wireRead p a s =
      { s with
        rlat := tableLookup p a s, txeEn := false,
        tx := s.tx ++ [dataHigh (s.tableVal a p), dataLow (s.tableVal a p), entryCode p a (s.tableVal a p)] } := by
  obtain ⟨hhi, hlo, hck⟩ := tableLookup_bytes p a s
  rw [wireRead, receiveAll_readBytes p a h, transmit_reply rfl rfl]
  simp only [hhi, hlo, hck, ← h]

/-- Settles O11: the latch holds the looked-up value and its code, and `entryCode` is the code of R140 over them. -/
theorem readFrameAnswersWithEntry : Obligations.ReadFrameAnswersWithEntry := fun a _ hps =>
  congrArg Host.Outcome.next (wireRead_of_sync Config.params a hps)

end Sys2Proof.Proofs
end

section
/-! The integrity code (40_register_table.md R140, R144, R145): it keeps the parity of each bit column of a frame odd,
and parity is linear. -/

namespace Sys2Proof.Proofs

open Sys2Proof.Machine

/-- Parity of bit `i` over the four bytes of a frame, bit 7 of the first (DIR) left out as `frame_ok` leaves it out. -/
def columnParity (w : FrameWord) (i : Nat) : Bool :=
  ((i != 7 && w.getLsbD (24 + i)) ^^ w.getLsbD (16 + i)) ^^ (w.getLsbD (8 + i) ^^ w.getLsbD i)

theorem columnParity_xor (w e : FrameWord) (i : Nat) :
    columnParity (w ^^^ e) i = (columnParity w i ^^ columnParity e i) := by
  simp only [columnParity, BitVec.getLsbD_xor, Bool.and_xor_distrib_left, Bool.xor_assoc, Bool.xor_left_comm]

/-- The complement in R140 makes the parity of a good column odd. -/
theorem frameOk_iff_columnParity (w : FrameWord) : frameOk w = true ↔ ∀ i < 8, columnParity w i = true := by
  rw [frameOk_iff_bits]
  refine forall₂_congr fun i _ => ?_
  rw [columnParity, ← Bool.xor_assoc, Bool.xor_iff_ne, Bool.not_eq]

theorem frameOk_xor_iff {w : FrameWord} (hw : frameOk w = true) (e : FrameWord) :
    frameOk (w ^^^ e) = true ↔ ∀ i < 8, columnParity e i = false := by
  rw [frameOk_iff_columnParity] at hw ⊢
  refine forall₂_congr fun i hi => ?_
  rw [columnParity_xor, hw i hi, Bool.true_xor, Bool.not_eq_true']

/-- A bit of address, data or code stands in one column. -/
theorem columnParity_singleBit : ∀ i < 31, columnParity ((1 : FrameWord) <<< i) (i % 8) = true := by decide

/-- Settles O14: an error passes when it keeps the parity of every column, and a single bit changes one. -/
theorem integrityCodeDetectsErrors : Obligations.IntegrityCodeDetectsErrors := by
  refine ⟨fun a d => ?built, fun w i hw hi => ?single, fun w e hw => frameOk_xor_iff hw e⟩
  case built =>
    rw [← frameOf_eq_append]
    exact frameOk_goodFrame a d
  case single =>
    refine Bool.eq_false_iff.mpr fun hok => ?_
    have heven := (frameOk_xor_iff hw _).mp hok (i % 8) (Nat.mod_lt i (by decide))
    exact absurd (columnParity_singleBit i hi) (Bool.eq_false_iff.mp heven)

end Sys2Proof.Proofs
end

section
/-! The table write port (40_register_table.md R142): what every address reads as after a publish. -/

namespace Sys2Proof.Proofs

open Sys2Proof.Machine

variable {p : Params} {a : Addr} {s : State}

theorem isMirror_iff :
    isMirror p a = true ↔ a = p.ADDR_STATUS ∨ a = p.ADDR_FAULT ∨ a = p.ADDR_FAULT_MASK := by
  simp [isMirror, or_assoc]

/-- An address has a stored entry that the write port reaches: it is valid and no mirror. -/
theorem writable_iff :
    validAddr p a = true ∧ isMirror p a = false ↔
      a.toNat < p.N_REGS ∧ a ≠ p.ADDR_STATUS ∧ a ≠ p.ADDR_FAULT ∧ a ≠ p.ADDR_FAULT_MASK := by
  simp [validAddr, ← Bool.not_eq_true, isMirror_iff]

theorem tablePublish_of_refused (v : Data) (h : validAddr p a = false ∨ isMirror p a = true) :
    tablePublish p a v s = s := by
  obtain ⟨hvalid, hstored, -⟩ | ⟨-, he⟩ := tablePublish_cases p a v s
  · simp [hvalid, hstored] at h
  · exact he

theorem tablePublish_eq_withTable (p : Params) (a : Addr) (v : Data) (s : State) :
    tablePublish p a v s = { s with table := (tablePublish p a v s).table } := by
  obtain ⟨-, -, he⟩ | ⟨-, he⟩ := tablePublish_cases p a v s <;> rw [he]

theorem tableEntry_tablePublish (v : Data) (b : Addr) (hrise : keysRise s.table = true) :
    tableEntry p (tablePublish p a v s).table b =
      if b = a ∧ validAddr p a = true ∧ isMirror p a = false then { val := v, code := entryCode p a v }
      else tableEntry p s.table b := by
  obtain ⟨hvalid, hstored, he⟩ | ⟨hrefused, he⟩ := tablePublish_cases p a v s <;> rw [he]
  · by_cases hb : b = a
    · rw [if_pos ⟨hb, hvalid, hstored⟩, hb]
      exact tableEntry_tableWrite_same p s.table a _ hrise
    · rw [if_neg fun h => hb h.1]
      exact tableEntry_tableWrite_other p s.table _ hb
  · rw [if_neg]
    rintro ⟨-, hvalid, hstored⟩
    simp [hvalid, hstored] at hrefused

/-- Settles O15: the entry read back after a publish, by whether the write port reaches the address. -/
theorem publishWritesOneEntry : Obligations.PublishWritesOneEntry := by
  intro a v s hcanonical
  obtain ⟨hrise, -⟩ := (Memory.wf_iff Config.params s.table).mp hcanonical
  refine ⟨_, rfl, tablePublish_eq_withTable _ a v s, fun b => ?entry, fun hbad => ?refused⟩
  case entry =>
    simp only [← writable_iff]
    exact tableEntry_tablePublish v b hrise
  case refused =>
    refine tablePublish_of_refused v (hbad.imp (fun h => ?_) isMirror_iff.mpr)
    simpa [validAddr] using h

end Sys2Proof.Proofs
end

section
/-! The rows of the protocol engine one by one (41_protocol_engine.md R160 to R170): what each does in its protocol
state, and that it does nothing in another. -/

namespace Sys2Proof.Proofs

open Sys2Proof.Machine

variable {p : Params} {s : State}

/-! ## A row outside its protocol state, or with the transmit gate closed -/

theorem rxSync_of_ne (h : s.pstate ≠ .sync) : rxSync s = s := if_neg h

theorem rxReadAddr_of_ne (a : Addr) (h : s.pstate ≠ .addr) : rxReadAddr p a s = s := if_neg h

theorem rxWriteAddr_of_ne (a : Addr) (h : s.pstate ≠ .addr) : rxWriteAddr a s = s := if_neg h

theorem rxDataHi_of_ne (d : Byte) (h : s.pstate ≠ .dhi) : rxDataHi d s = s := if_neg h

theorem rxDataLo_of_ne (d : Byte) (h : s.pstate ≠ .dlo) : rxDataLo d s = s := if_neg h

theorem rxChecksum_of_ne (c : Byte) (h : s.pstate ≠ .ck) : rxChecksum p c s = s := if_neg h

theorem txHi_of_blocked (h : s.txeEn = false ∨ s.pstate ≠ .thi) : txHi s = s := by
  obtain hgate | hps := h
  · simp [txHi, hgate]
  · simp [txHi, hps]

theorem txLo_of_blocked (h : s.txeEn = false ∨ s.pstate ≠ .tlo) : txLo s = s := by
  obtain hgate | hps := h
  · simp [txLo, hgate]
  · simp [txLo, hps]

theorem txCk_of_blocked (h : s.txeEn = false ∨ s.pstate ≠ .tck) : txCk s = s := by
  obtain hgate | hps := h
  · simp [txCk, hgate]
  · simp [txCk, hps]

/-! ## An event runs the row of its protocol state -/

/-- EV_RX runs the row that the decode map gives in the present protocol state (30_encoding.md R118). -/
theorem exec_evRx_of_pstate {ps : PState} {b : Byte} {c : RxCommand} (hps : s.pstate = ps) (hdec : decodeRx ps b = c) :
    exec (.evRx b) s = exec (instrOfRx c) s := by
  rw [exec_evRx, hps, hdec]

/-- A transmit row in its protocol state has the effect of the transmit-empty event, which runs it
(30_encoding.md R118). -/
theorem exec_txRow {c : TxCommand} {t : State} (hdec : decodeTx s.pstate = some c) (ht : transmit s = t) :
    exec (instrOfTx c) s = .next t ∧ exec .evTxe s = exec (instrOfTx c) s :=
  ⟨(exec_evTxe hdec).symm.trans (congrArg Host.Outcome.next ht), exec_evTxe hdec⟩

theorem transmitting_iff {ps : PState} : transmitting ps = true ↔ ps = .thi ∨ ps = .tlo ∨ ps = .tck := by
  simp [transmitting, or_assoc]

/-! ## The obligations on single rows -/

/-- Settles O1: a sync byte in S_SYNC starts a frame. -/
theorem syncByteStartsFrame : Obligations.SyncByteStartsFrame := fun _ =>
  ⟨fun hps => ⟨congrArg Host.Outcome.next (if_pos hps),
      congrArg Host.Outcome.next (receive_sync Config.params hps)⟩,
    fun hps => congrArg Host.Outcome.next (rxSync_of_ne hps)⟩

/-- Settles O2: the two discard rows are the identity, and the decode map sends every other byte of S_SYNC and every
byte of a transmit state to them. -/
theorem discardedBytesChangeNothing : Obligations.DiscardedBytesChangeNothing := by
  refine fun b s => ⟨rfl, rfl, fun hps hb => ?sync, fun hps => ?transmit⟩
  case sync => exact congrArg Host.Outcome.next (receive_sync_other Config.params hps hb)
  case transmit => exact congrArg Host.Outcome.next (receive_transmitting Config.params b (transmitting_iff.mpr hps))

/-- The lookup chain of 40_register_table.md R143 with the range check as a comparison. -/
theorem tableVal_eq (p : Params) (a : Addr) (s : State) :
    s.tableVal a p =
      if p.N_REGS ≤ a.toNat then 0
      else if a = p.ADDR_STATUS then s.status
      else if a = p.ADDR_FAULT then s.fault
      else if a = p.ADDR_FAULT_MASK then s.faultMask
      else (tableEntry p s.table a).val := by
  simp [State.tableVal, validAddr]

/-- Settles O3: the latch is `tableLookup`, whose value is the chain of R143. -/
theorem readAddressLatchesReply : Obligations.ReadAddressLatchesReply := by
  intro a s v hi lo code
  have hval : s.tableVal a = v := tableVal_eq Config.params a s
  have hreply : tableLookup Config.params a s = hi ++ lo ++ code := by
    rw [tableLookup, hval]
    rfl
  rw [← hreply]
  exact ⟨fun hps => ⟨congrArg Host.Outcome.next (if_pos hps),
      congrArg Host.Outcome.next (receive_readAddr Config.params hps)⟩,
    fun hps => congrArg Host.Outcome.next (rxReadAddr_of_ne a hps)⟩

/-- Settles O4: each of the three rows in its protocol state, run by the byte received, and in every other. -/
theorem writeBytesFillAccumulator : Obligations.WriteBytesFillAccumulator := fun a d _ =>
  ⟨fun hps => ⟨congrArg Host.Outcome.next (if_pos hps), exec_evRx_of_pstate hps (decodeRx_writeAddr a)⟩,
    fun hps => congrArg Host.Outcome.next (rxWriteAddr_of_ne a hps),
    fun hps => ⟨congrArg Host.Outcome.next (if_pos hps), exec_evRx_of_pstate hps rfl⟩,
    fun hps => congrArg Host.Outcome.next (rxDataHi_of_ne d hps),
    fun hps => ⟨congrArg Host.Outcome.next (if_pos hps), exec_evRx_of_pstate hps rfl⟩,
    fun hps => congrArg Host.Outcome.next (rxDataLo_of_ne d hps)⟩

/-- Settles O6: a transmit row in its protocol state is the transmit-empty event, and is blocked otherwise. -/
theorem transmitEmptySendsLatch : Obligations.TransmitEmptySendsLatch := fun _ =>
  ⟨fun hgate hps => exec_txRow (c := .hi) (by rw [hps]; rfl) (transmit_hi hgate hps),
    fun hgate hps => exec_txRow (c := .lo) (by rw [hps]; rfl) (transmit_lo hgate hps),
    fun hgate hps => exec_txRow (c := .ck) (by rw [hps]; rfl) (transmit_ck hgate hps),
    fun h => congrArg Host.Outcome.next (txHi_of_blocked h),
    fun h => congrArg Host.Outcome.next (txLo_of_blocked h),
    fun h => congrArg Host.Outcome.next (txCk_of_blocked h)⟩

/-! ## The end of a write frame -/

/-- CHECKSUM is one push of the frame as received, in a state already back in S_SYNC (41_protocol_engine.md R166). -/
theorem rxChecksum_eq_push (p : Params) (c : Byte) (hps : s.pstate = .ck) :
    rxChecksum p c s = queuePush p (s.facc.extractLsb' 8 24 ++ c) { s with pstate := .sync } :=
  (if_pos hps).trans (queuePush_pstate_comm p _ .sync s)

/-- A full queue drops the frame (42_write_queue.md R190). -/
theorem queuePush_of_full (w : FrameWord) (hfull : s.qFull = true) : queuePush p w s = s := if_pos hfull

/-- Settles O5: the row is one push from S_SYNC, so a full queue drops the frame and a queue with room writes the one
slot `q_wr`. -/
theorem checksumQueuesOrDropsFrame : Obligations.ChecksumQueuesOrDropsFrame := by
  refine fun c s => ⟨fun hps => ?_, fun hps => congrArg Host.Outcome.next (rxChecksum_of_ne c hps)⟩
  have hpush : exec (.checksum c) s = .next (queuePush Config.params (s.facc.extractLsb' 8 24 ++ c)
      { s with pstate := .sync }) := congrArg Host.Outcome.next (rxChecksum_eq_push Config.params c hps)
  refine ⟨exec_evRx_of_pstate hps rfl, fun hfull => ?full, fun hroom => ⟨_, hpush, ?frame, ?slot, fun k hk => ?other⟩⟩
  case full =>
    exact hpush.trans (congrArg Host.Outcome.next (queuePush_of_full (s := { s with pstate := .sync }) _ hfull))
  case frame => exact queuePush_eq_of_room _ _ hroom
  case slot => exact queueSlot_push_same _ _ _ hroom
  case other => exact queueSlot_push_other _ { s with pstate := .sync } _ hk

end Sys2Proof.Proofs
end

section
/-! How the engine comes back to S_SYNC (41_protocol_engine.md R172, 70_reset_and_hazards.md R365): the protocol state
is a machine of its own, which reads the bytes and none of the other registers. -/

namespace Sys2Proof.Proofs

open Sys2Proof.Machine

variable {s : State}

/-- The protocol state after a byte, of the protocol state before it (41_protocol_engine.md R160 to R167). -/
def pstateAfterRx : PState → Byte → PState
  | .sync, b => if b = syncByte then .addr else .sync
  | .addr, b => if isReadByte b then .thi else .dhi
  | .dhi, _ => .dlo
  | .dlo, _ => .ck
  | .ck, _ => .sync
  | .thi, _ => .thi
  | .tlo, _ => .tlo
  | .tck, _ => .tck

theorem receive_pstate (p : Params) (b : Byte) (s : State) :
    (receive p b s).pstate = pstateAfterRx s.pstate b := by
  cases hps : s.pstate
  case sync =>
    by_cases hb : b = syncByte
    · rw [hb, receive_sync p hps]
      rfl
    · rw [receive_sync_other p hps hb, hps, pstateAfterRx, if_neg hb]
  case addr =>
    rw [← addrByte_byteAddr b, pstateAfterRx, isReadByte_addrByte]
    cases isReadByte b
    · exact congrArg State.pstate (receive_writeAddr p hps)
    · exact congrArg State.pstate (receive_readAddr p hps)
  case dhi => rw [receive_dataHi p b hps, pstateAfterRx]
  case dlo => rw [receive_dataLo p b hps, pstateAfterRx]
  case ck => rw [receive_checksum p b hps, pstateAfterRx]
  case thi | tlo | tck => rw [receive_transmitting p b (by rw [hps]; rfl), hps, pstateAfterRx]

theorem receiveAll_pstate (p : Params) (bytes : List Byte) (s : State) :
    (receiveAll p bytes s).pstate = bytes.foldl pstateAfterRx s.pstate := by
  induction bytes generalizing s with
  | nil => rfl
  | cons b rest ih => rw [receiveAll, ih, receive_pstate, List.foldl_cons]

/-- Received bytes do not disturb a reply that is being sent (41_protocol_engine.md R167). -/
theorem receiveAll_of_transmitting (p : Params) (bytes : List Byte) (h : transmitting s.pstate = true) :
    receiveAll p bytes s = s := by
  induction bytes with
  | nil => rfl
  | cons b rest ih => rw [receiveAll, receive_transmitting p b h, ih]

/-- Three transmit-empty events end a reply, however much of it is still to send; those left over after its last byte
find the gate closed (41_protocol_engine.md R168 to R170). -/
theorem transmit_thrice_pstate (hgate : s.txeEn = true) (h : transmitting s.pstate = true) :
    (transmit (transmit (transmit s))).pstate = .sync := by
  obtain hps | hps | hps := transmitting_iff.mp h
  · rw [transmit_reply hgate hps]
  · simp [transmit_lo hgate hps, transmit_ck, transmit_of_closed_gate, hgate]
  · simp [transmit_ck hgate hps, transmit_of_closed_gate]

/-- Four zero bytes end any frame being received: none of them is a sync byte or has the DIR bit of a read. -/
theorem foldl_pstateAfterRx_zeros {ps : PState} (h : transmitting ps = false) :
    ([0, 0, 0, 0] : List Byte).foldl pstateAfterRx ps = .sync := by
  cases ps
  case sync | addr | dhi | dlo | ck => rfl
  case thi | tlo | tck => exact absurd h (by decide)

/-- Settles O13: the bytes move the protocol state alone, and the transmit-empty events send the rest of the reply. -/
theorem engineResynchronises : Obligations.EngineResynchronises := by
  intro p s
  simp only [receiveAll_pstate, receive_pstate]
  refine ⟨fun hps b1 b2 b3 => ?dhi, fun hps b1 b2 => ?dlo, fun hps b1 => ?ck, fun hps b => ?addr,
    fun h bytes => receiveAll_of_transmitting p bytes h, fun h hgate => transmit_thrice_pstate hgate h,
    foldl_pstateAfterRx_zeros, fun hps => ?ones⟩
  case dhi | dlo | ck | addr | ones => rw [hps]; rfl

end Sys2Proof.Proofs
end

section
/-! The write queue as a list of frames, oldest first (10_state.md R36, R37, 42_write_queue.md R199), and the rows a
dequeue runs (42_write_queue.md R193 to R198). -/

namespace Sys2Proof.Proofs

open Sys2Proof.Machine

variable {p : Params} {s : State} {w : FrameWord} {ws : List FrameWord}

/-! ## Slots along the ring -/

theorem ringSlot_zero (hrd : s.qRd < p.QCAP) : ringSlot p s 0 = s.qRd := Nat.mod_eq_of_lt hrd

theorem ringSlot_succ (p : Params) (s : State) (k : Nat) : (ringSlot p s k + 1) % p.QCAP = ringSlot p s (k + 1) :=
  Nat.mod_add_mod _ _ _

/-- After a pop every frame is one place nearer. -/
theorem ringSlot_pop (p : Params) (s : State) (k : Nat) :
    ringSlot p { s with qRd := (s.qRd + 1) % p.QCAP, qFull := false } k = ringSlot p s (k + 1) := by
  show ((s.qRd + 1) % p.QCAP + k) % p.QCAP = (s.qRd + (k + 1)) % p.QCAP
  rw [Nat.mod_add_mod, Nat.add_assoc, Nat.add_comm 1 k]

theorem ringSlot_inj {j k : Nat} (hj : j < p.QCAP) (hk : k < p.QCAP) : ringSlot p s j = ringSlot p s k ↔ j = k :=
  ⟨fun h => (Nat.ModEq.add_left_cancel' s.qRd h).eq_of_lt_of_lt hj hk, fun h => h ▸ rfl⟩

/-- The push index meets the pop index in an empty and in a full queue only (10_state.md R36). -/
theorem ringSlot_eq_qRd_iff {k : Nat} (hrd : s.qRd < p.QCAP) (hk : k ≤ p.QCAP) :
    ringSlot p s k = s.qRd ↔ k = 0 ∨ k = p.QCAP := by
  obtain hlt | rfl := Nat.lt_or_eq_of_le hk
  · rw [← ringSlot_zero hrd, ringSlot_inj hlt p.qcap_pos]
    omega
  · simp [ringSlot, Nat.mod_eq_of_lt hrd]

/-! ## The frames in the queue -/

/-- The queue holds the frames `ws`, the oldest first, in the slots from `q_rd` on. -/
structure QueueHolds (p : Params) (s : State) (ws : List FrameWord) : Prop where
  rd : s.qRd < p.QCAP
  fits : ws.length ≤ p.QCAP
  wr : s.qWr = ringSlot p s ws.length
  full : s.qFull = true ↔ ws.length = p.QCAP
  slots : ∀ (k : Nat) (hk : k < ws.length), queueSlot s (ringSlot p s k) = ws[k]

theorem queueEmpty_iff : queueEmpty s = true ↔ s.qWr = s.qRd ∧ s.qFull = false := by
  simp [queueEmpty]

theorem queueHolds_nil (hrd : s.qRd < p.QCAP) (hwr : s.qWr = s.qRd) (hfull : s.qFull = false) :
    QueueHolds p s [] where
  rd := hrd
  fits := Nat.zero_le _
  wr := hwr.trans (ringSlot_zero hrd).symm
  full := by simp [hfull, Nat.ne_of_lt p.qcap_pos]
  slots := nofun

theorem QueueHolds.queueEmpty_iff_nil (h : QueueHolds p s ws) : queueEmpty s = true ↔ ws = [] := by
  have hcap := p.qcap_pos
  rw [queueEmpty_iff, h.wr, ringSlot_eq_qRd_iff h.rd h.fits, ← Bool.not_eq_true, h.full,
    ← List.length_eq_zero_iff]
  omega

theorem QueueHolds.queueCount_eq (h : QueueHolds p s ws) : queueCount p s = ws.length := by
  cases hfull : s.qFull
  case true => exact (if_pos hfull).trans (h.full.mp hfull).symm
  case false =>
    have hwr : s.qWr < p.QCAP := h.wr ▸ Nat.mod_lt _ p.qcap_pos
    have hcount : queueCount p s < p.QCAP := by
      simpa [queueCount, hfull] using Nat.mod_lt _ p.qcap_pos
    have hlen : ws.length < p.QCAP := lt_of_le_of_ne h.fits fun hc => by simp [h.full.mpr hc] at hfull
    exact (ringSlot_inj hcount hlen).mp ((ringSlot_queueCount hwr h.rd hfull).trans h.wr)

/-- A push into a queue with room appends the frame (42_write_queue.md R190). -/
theorem QueueHolds.push (h : QueueHolds p s ws) (hroom : ws.length < p.QCAP) (w : FrameWord) :
    QueueHolds p (queuePush p w s) (ws ++ [w]) := by
  have hfull : s.qFull = false := by simpa using fun hf => hroom.ne (h.full.mp hf)
  have hpush := queuePush_eq_of_room p w hfull
  have hring : ∀ k, ringSlot p (queuePush p w s) k = ringSlot p s k := fun k => by rw [hpush]; rfl
  have hnext : (s.qWr + 1) % p.QCAP = ringSlot p s (ws.length + 1) := by rw [h.wr, ringSlot_succ]
  refine ⟨?rd, ?fits, ?wr, ?full, fun k hk => ?slots⟩
  case rd => rw [hpush]; exact h.rd
  case fits => simpa using hroom
  case wr => rw [hring, hpush]; simpa using hnext
  case full =>
    rw [hpush]
    simp [hnext, ringSlot_eq_qRd_iff h.rd hroom]
  case slots =>
    rw [hring]
    obtain hlt | rfl : k < ws.length ∨ k = ws.length := by simp at hk; omega
    · have hother : ringSlot p s k ≠ s.qWr := by
        rw [h.wr, Ne, ringSlot_inj (hlt.trans hroom) hroom]
        exact hlt.ne
      rw [queueSlot_push_other p s w hother, h.slots k hlt, List.getElem_append_left hlt]
    · rw [← h.wr, queueSlot_push_same p s w hfull, List.getElem_concat_length rfl]

/-- A pop returns the oldest frame and leaves the others (42_write_queue.md R191). -/
theorem QueueHolds.pop (h : QueueHolds p s (w :: ws)) :
    ∃ t, queuePop p s = some (w, t) ∧ QueueHolds p t ws := by
  obtain ⟨hempty, -⟩ | ⟨-, hpop⟩ := queuePop_cases p s
  · exact absurd (h.queueEmpty_iff_nil.mp hempty) nofun
  have hw : queueSlot s s.qRd = w :=
    (congrArg (queueSlot s) (ringSlot_zero h.rd)).symm.trans (h.slots 0 (Nat.succ_pos _))
  have hfits : ws.length < p.QCAP := h.fits
  refine ⟨_, hw ▸ hpop, Nat.mod_lt _ p.qcap_pos, hfits.le, ?wr, ?full, fun k hk => ?slots⟩
  case wr => rw [ringSlot_pop]; exact h.wr
  case full => simpa using hfits.ne
  case slots =>
    rw [ringSlot_pop]
    exact h.slots (k + 1) (Nat.succ_lt_succ hk)

/-! ## Runs of pushes and of pops -/

theorem QueueHolds.after_pushAll {vs : List FrameWord} (h : QueueHolds p s vs) (hroom : (vs ++ ws).length ≤ p.QCAP) :
    QueueHolds p (pushAll p ws s) (vs ++ ws) := by
  induction ws generalizing s vs with
  | nil => rwa [List.append_nil]
  | cons w rest ih =>
    have hlt : vs.length < p.QCAP := by simp at hroom; omega
    rw [List.append_cons] at hroom ⊢
    exact ih (h.push hlt w) hroom

theorem QueueHolds.after_popMany (h : QueueHolds p s ws) :
    (popMany p ws.length s).1 = ws ∧ QueueHolds p (popMany p ws.length s).2 [] := by
  induction ws generalizing s with
  | nil => exact ⟨rfl, h⟩
  | cons w rest ih =>
    obtain ⟨t, hpop, ht⟩ := h.pop
    obtain ⟨hframes, hrest⟩ := ih ht
    simp only [List.length_cons, popMany, hpop]
    exact ⟨congrArg (w :: ·) hframes, hrest⟩

/-- Settles O17: each push appends a frame to the list the queue holds, each pop takes its head, and a list of QCAP
frames is a full queue. -/
theorem queueIsFifo : Obligations.QueueIsFifo := by
  intro p s ws hrd hwr hfull hlen
  have hpushed : QueueHolds p (pushAll p ws s) ws := (queueHolds_nil hrd hwr hfull).after_pushAll hlen
  obtain ⟨hframes, hrest⟩ := hpushed.after_popMany
  exact ⟨hframes, hrest.queueEmpty_iff_nil.mpr rfl, hpushed.queueCount_eq,
    fun hcap w => queuePush_of_full w (hpushed.full.mpr hcap)⟩

/-! ## The rows a dequeue runs -/

/-- Settles O19: an empty queue and a pop are all a dequeue can do, and the dispatch after the pop is the row of the
frame's command. -/
theorem dequeueRunsOldestFrame : Obligations.DequeueRunsOldestFrame := by
  intro now s
  obtain ⟨hempty, he⟩ | ⟨hne, he⟩ := dequeue_cases Config.params now s
  · obtain ⟨hwr, hfull⟩ := queueEmpty_iff.mp hempty
    refine ⟨fun _ _ => congrArg Host.Outcome.next he, fun h => ?_⟩
    simp [hwr, hfull] at h
  · refine ⟨fun hwr hfull => ?_, fun _ => ⟨_, rfl, ?_⟩⟩
    · simp [queueEmpty_iff.mpr ⟨hwr, hfull⟩] at hne
    · rw [exec_instrOfFrame, he]

/-- Settles O21: `wrBadCode` alone reads a parameter, and bit 1 of FAULT is CRC (10_state.md R40). -/
theorem droppedAndExternalWrites : Obligations.DroppedAndExternalWrites := fun _ _ _ _ => ⟨rfl, rfl, rfl, rfl⟩

end Sys2Proof.Proofs
end

section
/-! The commands on the fault register, the mask, the enable state machine and the setpoints (43_fault_enable.md R220 to
R237), one equation for each case of the operation a command runs. -/

namespace Sys2Proof.Proofs

open Sys2Proof.Machine

variable {p : Params} {s : State}

/-! ## The fault condition as R223 and R224 write it -/

theorem faultCondition_iff : faultCondition s = true ↔ s.fault &&& s.faultMask ≠ 0 := by
  simp [faultCondition, maskedFaults]

theorem faultCondition_eq_false_iff : faultCondition s = false ↔ s.fault &&& s.faultMask = 0 := by
  simp [faultCondition, maskedFaults]

/-- The indicator looks at every bit but EXT, bit 13 (10_state.md R40). -/
theorem ledLevel_eq (s : State) : ledLevel s = (s.fault &&& s.faultMask &&& 0xDFFF != 0) := rfl

/-! ## Disabling and evaluating, case by case -/

theorem enableFalse_of_enabled (hon : s.enabled = true) :
    enableFalse p s =
      { s with
        pwrEn0 := false, pwrEn1 := false, dacCode := p.DAC_ZERO_CODE, dacTarget := p.DAC_ZERO_CODE,
        transient := false, slewRun := false, enabled := false, nir := false, integ := 0, afeCont := false } := by
  obtain ⟨hoff, -⟩ | ⟨-, he⟩ := enableFalse_cases p s
  · exact absurd (hon.symm.trans hoff) nofun
  · exact he

theorem checkFaults_of_masked (h : s.fault &&& s.faultMask ≠ 0) :
    checkFaults p s =
      { enableFalse p s with faultActive := true, faultLed := s.fault &&& s.faultMask &&& 0xDFFF != 0 } := by
  obtain ⟨-, he⟩ | ⟨hclear, -⟩ := checkFaults_cases p s
  · rw [he, ledLevel_eq]
  · exact absurd (faultCondition_eq_false_iff.mp hclear) h

theorem checkFaults_of_clear (h : s.fault &&& s.faultMask = 0) :
    checkFaults p s = { s with faultActive := false, faultLed := false } := by
  obtain ⟨hmasked, -⟩ | ⟨-, he⟩ := checkFaults_cases p s
  · exact absurd h (faultCondition_iff.mp hmasked)
  · exact he

/-! ## Raising a cause, case by case -/

variable {bits : FaultBits}

theorem trigger_of_masked (h : (s.fault ||| (bits &&& 0x3FFF)) &&& s.faultMask ≠ 0) :
    trigger p bits s =
      { enableFalse p { s with fault := s.fault ||| (bits &&& 0x3FFF) } with
        faultActive := true, faultLed := (s.fault ||| (bits &&& 0x3FFF)) &&& s.faultMask &&& 0xDFFF != 0 } :=
  (trigger_eq_checkFaults p s bits).trans (checkFaults_of_masked h)

theorem trigger_of_clear (h : (s.fault ||| (bits &&& 0x3FFF)) &&& s.faultMask = 0) :
    trigger p bits s = { s with fault := s.fault ||| (bits &&& 0x3FFF), faultActive := false, faultLed := false } :=
  (trigger_eq_checkFaults p s bits).trans (checkFaults_of_clear h)

/-! ## The fault register and its mask -/

/-- Settles O22: a trigger is an evaluation with the causes latched, and an evaluation that finds a masked cause runs
`enable(false)`. -/
theorem triggerLatchesAndDisables : Obligations.TriggerLatchesAndDisables := by
  intro p bits s f
  refine ⟨fun hmasked hon => ?on, fun hmasked hoff => ?off, trigger_of_clear⟩ <;> rw [trigger_of_masked hmasked]
  case on => rw [enableFalse_of_enabled (s := { s with fault := f }) hon]
  case off => rw [enableFalse_of_disabled p { s with fault := f } hoff]

/-- Settles O23: `clear(bits)` is an evaluation with the written bits removed. -/
theorem faultClearRemovesWrittenBits : Obligations.FaultClearRemovesWrittenBits := fun _ _ =>
  ⟨fun hmasked => congrArg Host.Outcome.next (checkFaults_of_masked hmasked),
    fun hclear => congrArg Host.Outcome.next (checkFaults_of_clear hclear)⟩

/-- Settles O24: `set_mask(M)` is an evaluation under the stored mask. -/
theorem faultMaskWriteEvaluates : Obligations.FaultMaskWriteEvaluates := fun _ _ =>
  ⟨fun hmasked => congrArg Host.Outcome.next (checkFaults_of_masked hmasked),
    fun hclear => congrArg Host.Outcome.next (checkFaults_of_clear hclear)⟩

/-- Settles O25: the stored mask is the operand with NON_MASKABLE, cut to the defined bits. -/
theorem nonMaskableBitsSurviveMaskWrites : Obligations.NonMaskableBitsSurviveMaskWrites := by
  intro p m s
  rw [setFaultMask_faultMask]
  exact ⟨storedMask_keeps p m, storedMask_within p m⟩

/-! ## The enable register -/

theorem wrEnable_of_ne_zero {d : Data} (now : Millis) (hd : d ≠ 0) : wrEnable p d now s = enableTrue p now s :=
  if_pos hd

theorem enableAllowed_iff_masked :
    enableAllowed s = true ↔ s.enabled = false ∧ s.ready = true ∧ s.fault &&& s.faultMask = 0 := by
  rw [enableAllowed_iff, faultCondition_eq_false_iff]

theorem enableAllowed_eq_false_iff :
    enableAllowed s = false ↔ s.enabled = true ∨ s.ready = false ∨ s.fault &&& s.faultMask ≠ 0 := by
  rw [← Bool.not_eq_true, enableAllowed_iff_masked]
  simp only [not_and_or, Bool.not_eq_false, Bool.not_eq_true, ne_eq]

theorem enableTrue_of_refused (now : Millis) (h : enableAllowed s = false) : enableTrue p now s = s :=
  if_neg (by rw [h]; exact Bool.false_ne_true)

/-- A successful enable in CC forces DAC_MIN_CODE and ramps from there to the setpoint's code. -/
theorem enableTrue_of_cc (now : Millis) (h : enableAllowed s = true) (hcc : s.mode = .cc) :
    enableTrue p now s =
      { s with
        dacCode := p.DAC_MIN_CODE, dacTarget := p.CC_CODE s.sp.cc,
        transient := decide (p.CC_CODE s.sp.cc ≠ p.DAC_MIN_CODE),
        slewRun := decide (p.CC_CODE s.sp.cc ≠ p.DAC_MIN_CODE), pwrEn0 := true, pwrEn1 := true, enabled := true,
        stats := { mAs := 0, mWs := 0, secs := 0 }, wdgLast := now } := by
  obtain ⟨hrefused, -⟩ | ⟨-, -, he⟩ | ⟨-, hloop, -⟩ := enableTrue_cases p s now
  · exact absurd (h.symm.trans hrefused) nofun
  · simpa only [bne, beq_eq_decide, ne_eq, decide_not] using he
  · exact absurd hcc hloop

/-- A successful enable in a closed-loop mode stays at DAC_MIN_CODE and starts the front end. -/
theorem enableTrue_of_loop (now : Millis) (h : enableAllowed s = true) (hloop : s.mode ≠ .cc) :
    enableTrue p now s =
      { s with
        dacCode := p.DAC_MIN_CODE, dacTarget := p.DAC_MIN_CODE, transient := false, slewRun := false, pwrEn0 := true,
        pwrEn1 := true, integ := 0, afeCont := true, enabled := true, stats := { mAs := 0, mWs := 0, secs := 0 },
        wdgLast := now } := by
  obtain ⟨hrefused, -⟩ | ⟨-, hcc, -⟩ | ⟨-, -, he⟩ := enableTrue_cases p s now
  · exact absurd (h.symm.trans hrefused) nofun
  · exact absurd hcc hloop
  · exact he

/-- Settles O28: a nonzero write runs `enable(true)`, which the guard of R225 refuses or admits; the mode then decides
between a ramp and the front end. -/
theorem enableWriteStartsLoadOrChangesNothing : Obligations.EnableWriteStartsLoadOrChangesNothing := by
  intro d now s hd
  have hrow : exec (.wrEnable d now) s = .next (enableTrue Config.params now s) :=
    congrArg Host.Outcome.next (wrEnable_of_ne_zero now hd)
  refine ⟨fun hguard => hrow.trans (congrArg _ ?refused), fun hoff hready hclear hcc => hrow.trans (congrArg _ ?ramp),
    fun hoff hready hclear hloop => hrow.trans (congrArg _ ?loop)⟩
  case refused => exact enableTrue_of_refused now (enableAllowed_eq_false_iff.mpr hguard)
  case ramp => exact enableTrue_of_cc now (enableAllowed_iff_masked.mpr ⟨hoff, hready, hclear⟩) hcc
  case loop => exact enableTrue_of_loop now (enableAllowed_iff_masked.mpr ⟨hoff, hready, hclear⟩) hloop

/-- Settles O29: a zero written runs `enable(false)`. -/
theorem zeroEnableWriteStopsLoad : Obligations.ZeroEnableWriteStopsLoad := fun _ s =>
  ⟨fun hoff => congrArg Host.Outcome.next (enableFalse_of_disabled Config.params s hoff),
    fun hon => congrArg Host.Outcome.next (enableFalse_of_enabled hon)⟩

/-! ## The mode register -/

theorem modeOfData_of_toNat_eq {d : Data} {m : Mode} (h : d.toNat = (modeCode m).toNat) : modeOfData d = some m := by
  have hd : d = (modeCode m).setWidth 16 := by
    apply BitVec.eq_of_toNat_eq
    rw [h]
    cases m <;> rfl
  rw [hd]
  cases m <;> decide

theorem modeOfData_of_gt {d : Data} (h : d.toNat > 3) : modeOfData d = none := by
  have hne : ∀ n : Data, n.toNat ≤ 3 → d ≠ n := by
    rintro n hn rfl
    omega
  rw [modeOfData, if_neg (hne 0 (by decide)), if_neg (hne 1 (by decide)), if_neg (hne 2 (by decide)),
    if_neg (hne 3 (by decide))]

theorem wrMode_of_other {d : Data} {m : Mode} (hd : modeOfData d = some m) (hm : m ≠ s.mode) :
    wrMode p d s = { enableFalse p s with mode := m, integ := 0 } := by
  simp [wrMode, hd, hm]

/-- Settles O30: a code above 3 names no mode and the present mode is skipped; any other runs `enable(false)` first. -/
theorem modeWriteSwitchesMode : Obligations.ModeWriteSwitchesMode := by
  refine fun d s => ⟨fun hignored => congrArg Host.Outcome.next ?_, fun m hcode hm =>
    ⟨fun hoff => congrArg Host.Outcome.next ?_, fun hon => congrArg Host.Outcome.next ?_⟩⟩
  · obtain hrange | hsame := hignored
    · simp [wrMode, modeOfData_of_gt hrange]
    · simp [wrMode, modeOfData_of_toNat_eq hsame]
  · rw [wrMode_of_other (modeOfData_of_toNat_eq hcode) hm, enableFalse_of_disabled _ _ hoff]
  · rw [wrMode_of_other (modeOfData_of_toNat_eq hcode) hm, enableFalse_of_enabled hon]

/-! ## The setpoints, the watchdog key and the self-test flag -/

theorem wrSpCc_sp (p : Params) (d : Data) (s : State) :
    (wrSpCc p d s).sp = { s.sp with cc := setpointOf p .cc d } := by
  obtain ⟨-, -, he⟩ | ⟨-, he⟩ := wrSpCc_cases p s d <;> rw [he]
  rw [setCurrent_sp]

/-- Settles O31: each write stores `setpointOf` of its mode, which is the clamp of R232 written out. -/
theorem setpointWritesAreClamped : Obligations.SetpointWritesAreClamped := fun d s =>
  ⟨rfl, rfl, rfl, _, rfl, wrSpCc_sp Config.params d s⟩

/-- Settles O32: the two cases of R233; the ramp starts as `set_current` with slew starts it (45_slew_dac.md R290). -/
theorem ccSetpointRedirectsRamp : Obligations.CcSetpointRedirectsRamp := by
  intro d s mA
  obtain ⟨hon, hcc, he⟩ | ⟨hidle, he⟩ := wrSpCc_cases Config.params s d
  · refine ⟨fun hother => ?_, fun _ _ => congrArg Host.Outcome.next (he.trans ?_)⟩
    · simp [hon, hcc] at hother
    · simp only [setCurrent, if_true, bne, beq_eq_decide, ne_eq, decide_not]
      rfl
  · exact ⟨fun _ => congrArg Host.Outcome.next he, fun hon hcc => absurd ⟨hon, hcc⟩ hidle⟩

/-- Settles O33: the two branches of R237. -/
theorem watchdogKeyRefreshes : Obligations.WatchdogKeyRefreshes := fun _ _ _ =>
  ⟨fun hkey => congrArg Host.Outcome.next (if_pos hkey), fun hother => congrArg Host.Outcome.next (if_neg hother)⟩

/-- Settles O34: R231 is one assignment. -/
theorem setReadyStoresFlag : Obligations.SetReadyStoresFlag := fun _ _ => rfl

end Sys2Proof.Proofs
end

section
/-! How the load comes on (43_fault_enable.md R225, R239, R241): every operation but a successful `enable(true)`
leaves a disabled load disabled. -/

namespace Sys2Proof.Proofs

open Sys2Proof.Machine

variable {p : Params} {s t : State}

theorem SerialOnly.enabled (h : SerialOnly s t) : t.enabled = s.enabled := by
  unfold SerialOnly at h
  rw [h]
  rfl

theorem trigger_of_off (bits : FaultBits) (hoff : s.enabled = false) : (trigger p bits s).enabled = false := by
  simp [trigger_eq_checkFaults, hoff]

theorem debStep_of_off (ch : Channel) (bad : Bool) (hoff : s.enabled = false) :
    (debStep p ch bad s).enabled = false := by
  rw [((Raised.none s).debStep p ch bad).enabled, hoff, Bool.false_and]

theorem period_of_off (now : Millis) (v c : Measure) (obs : Obs) (hoff : s.enabled = false) :
    (period p now v c obs s).enabled = false :=
  period_keeps (P := fun s => s.enabled = false) (fun s _ => enableFalse_enabled p s)
    (fun bits _ h => trigger_of_off bits h) (fun ch bad _ _ h => debStep_of_off ch bad h) now v c obs s hoff

theorem sample_enabled (p : Params) (v c : Measure) (s : State) : (sample p v c s).enabled = s.enabled := by
  obtain he | ⟨-, -, m, e, u, he⟩ := sample_cases p s v c <;> rw [he]
  rfl

theorem slewTick_enabled (p : Params) (s : State) : (slewTick p s).enabled = s.enabled := by
  obtain ⟨-, he⟩ | ⟨-, -, -, he⟩ | ⟨-, -, he⟩ | ⟨-, -, he⟩ := slewTick_cases p s <;> rw [he]

theorem wrMode_of_off (d : Data) (hoff : s.enabled = false) : (wrMode p d s).enabled = false := by
  unfold wrMode
  split
  · exact hoff
  · split
    · exact hoff
    · exact enableFalse_enabled p s

theorem wrSpCc_enabled (p : Params) (d : Data) (s : State) : (wrSpCc p d s).enabled = s.enabled := by
  obtain ⟨-, -, he⟩ | ⟨-, he⟩ := wrSpCc_cases p s d <;> rw [he]
  rw [setCurrent_enabled]

theorem wrWdg_enabled (p : Params) (d : Data) (now : Millis) (s : State) :
    (wrWdg p d now s).enabled = s.enabled := by
  unfold wrWdg
  split <;> rfl

theorem wrBadCode_of_off (hoff : s.enabled = false) : (wrBadCode p s).enabled = false := by
  unfold wrBadCode
  split
  · exact trigger_of_off bitCrc hoff
  · exact hoff

theorem enableTrue_of_off (now : Millis) (hoff : s.enabled = false) :
    (enableTrue p now s).enabled = enableAllowed s := by
  obtain ⟨hrefused, he⟩ | ⟨hallowed, -, he⟩ | ⟨hallowed, -, he⟩ := enableTrue_cases p s now <;> rw [he]
  · exact hoff.trans hrefused.symm
  · exact hallowed.symm
  · exact hallowed.symm

/-- A frame command that turns the load on is an enable command with nonzero data that R225 admits. -/
theorem dispatch_turnsOn {now : Millis} {c : FrameCommand} (hoff : s.enabled = false)
    (hon : (dispatch p now c s).enabled = true) :
    enableAllowed s = true ∧ ∃ d : Data, d ≠ 0 ∧ c = .enable d := by
  have stays_off : (dispatch p now c s).enabled = false → False := fun h => absurd (hon.symm.trans h) nofun
  cases c with
  | enable d =>
    by_cases hd : d = 0
    · subst hd
      exact (stays_off (enableFalse_enabled p s)).elim
    · refine ⟨?_, d, hd, rfl⟩
      rwa [dispatch, wrEnable_of_ne_zero now hd, enableTrue_of_off now hoff] at hon
  | mode d => exact (stays_off (wrMode_of_off d hoff)).elim
  | spCc d => exact (stays_off ((wrSpCc_enabled p d s).trans hoff)).elim
  | spCv d | spCr d | spCp d | status d | external a d | invalidAddr a d => exact (stays_off hoff).elim
  | faultClear d | faultMask d => exact (stays_off (by
      simp [dispatch, wrFaultClear, clearFaults, wrFaultMask, setFaultMask, hoff])).elim
  | wdg d => exact (stays_off ((wrWdg_enabled p d now s).trans hoff)).elim
  | badCode a d code => exact (stays_off (wrBadCode_of_off hoff)).elim

/-- Settles O35: of the instructions only a frame row, directly or by a dequeue, can turn a load on, and of the frame
commands only a nonzero enable write. -/
theorem onlyEnableWriteTurnsLoadOn : Obligations.OnlyEnableWriteTurnsLoadOn := by
  intro i s t hexec hoff hon
  have stays_off : ∀ u, exec i s = .next u → u.enabled = false → False := by
    intro u hu huoff
    obtain rfl := next_inj (hexec.symm.trans hu)
    exact absurd (hon.symm.trans huoff) nofun
  obtain ⟨u, hu, hserial⟩ | ⟨now, c, rfl⟩ | ⟨now, rfl⟩ | ⟨now, v, c, obs, rfl⟩ | ⟨v, c, rfl⟩ | rfl | ⟨r, rfl⟩ | rfl :=
    exec_cases i s
  · exact (stays_off u hu (hserial.enabled.trans hoff)).elim
  · obtain rfl := next_inj ((exec_instrOfFrame now c s).symm.trans hexec)
    obtain ⟨hallowed, d, hd, rfl⟩ := dispatch_turnsOn hoff hon
    obtain ⟨-, hready, hclear⟩ := enableAllowed_iff_masked.mp hallowed
    exact ⟨hready, hclear, d, now, hd, .inl rfl⟩
  · obtain ⟨-, he⟩ | ⟨hne, he⟩ := dequeue_cases Config.params now s
    · exact (stays_off _ rfl (by rwa [he])).elim
    · obtain rfl := next_inj hexec
      rw [he] at hon
      obtain ⟨hallowed, d, hd, hdec⟩ := dispatch_turnsOn
        (s := { s with qRd := (s.qRd + 1) % Config.params.QCAP, qFull := false }) hoff hon
      obtain ⟨-, hready, hclear⟩ := enableAllowed_iff_masked.mp hallowed
      exact ⟨hready, hclear, d, now, hd, .inr ⟨rfl, hne, hdec⟩⟩
  · exact (stays_off _ rfl (period_of_off now v c obs hoff)).elim
  · exact (stays_off _ rfl ((sample_enabled _ v c s).trans hoff)).elim
  · exact (stays_off _ rfl ((slewTick_enabled _ s).trans hoff)).elim
  · exact (stays_off _ rfl hoff).elim
  · exact (stays_off _ rfl rfl).elim

theorem faultActive_of_enableState_fault (h : s.enableState = .fault) : s.faultActive = true := by
  by_contra hclear
  unfold State.enableState at h
  rw [if_neg hclear] at h
  split_ifs at h

theorem enabled_of_enableState_enabled (h : s.enableState = .enabled) : s.enabled = true := by
  by_contra hoff
  unfold State.enableState at h
  rw [if_neg hoff] at h
  split_ifs at h

/-- Settles O36: in Fault a masked cause is latched and the load is off (R239), and a load comes on only with none
latched. -/
theorem faultNeverLeadsToEnabled : Obligations.FaultNeverLeadsToEnabled := by
  intro i s t hok hexec hfault henabled
  have hcause : faultCondition s = true := hok.active.symm.trans (faultActive_of_enableState_fault hfault)
  have hoff : s.enabled = false := by
    by_contra hon
    exact absurd (hcause.symm.trans (hok.arbitration (by simpa using hon))) nofun
  obtain ⟨-, hclear, -⟩ := onlyEnableWriteTurnsLoadOn i s t hexec hoff (enabled_of_enableState_enabled henabled)
  exact faultCondition_iff.mp hcause hclear

end Sys2Proof.Proofs
end

section
/-! The watchdog and the regulation step of a period (43_fault_enable.md R238, 44_debouncer.md R270, R273, R277). -/

namespace Sys2Proof.Proofs

open Sys2Proof.Machine

variable {p : Params} {s : State}

/-! ## The watchdog -/

/-- The watchdog check latches COMM exactly when it expires. -/
theorem wdgCheck_comm (p : Params) (now : Millis) (s : State) :
    (wdgCheck p now s).fault.getLsbD 0 = (s.fault.getLsbD 0 || wdgExpired p now s) := by
  obtain ⟨hexp, he⟩ | ⟨hexp, -, -, -, hfault⟩ := wdgCheck_cases p s now
  · rw [he, hexp, Bool.or_false]
  · have hcomm : bitComm.getLsbD 0 = true := by decide
    rw [hfault, hexp, BitVec.getLsbD_or, hcomm]

theorem wdgCheck_off (now : Millis) (h : s.enabled = false ∨ (now - s.wdgLast).toNat > p.WDG_TIMEOUT_MS) :
    (wdgCheck p now s).enabled = false := by
  obtain ⟨hexp, he⟩ | ⟨-, -, hoff, -⟩ := wdgCheck_cases p s now
  · rw [he]
    obtain hoff | hlate := h
    · exact hoff
    · rw [wdgExpired, decide_eq_true hlate, Bool.and_true] at hexp
      exact hexp
  · exact hoff

/-- Nothing in a period but the watchdog raises COMM. -/
theorem periodCauses_comm (p : Params) (now : Millis) (obs : Obs) (s : State) :
    (periodCauses p now obs s).getLsbD 0 = false := by
  rw [periodCauses_getLsbD]
  simp

/-- Settles O39: after the watchdog check a period raises other causes only, and a load that is off stays off. -/
theorem watchdogExpiryDisables : Obligations.WatchdogExpiryDisables := by
  intro now v c obs s
  obtain ⟨reg, h⟩ := raisedEvaluated_period Config.params now v c obs s
  refine ⟨_, rfl, ?comm, fun hoff => ?off⟩
  case comm =>
    have hreg : (0x0100 : FaultBits).getLsbD 0 = false := by decide
    rw [h.fault, BitVec.getLsbD_or, BitVec.getLsbD_or, periodCauses_comm, causeIf_getLsbD, hreg, Bool.and_false,
      Bool.or_false, Bool.or_false, wdgCheck_comm, wdgExpired]
  case off => rw [h.enabled, wdgCheck_off now hoff, Bool.false_and]

/-! ## The regulation step -/

/-- A setpoint missed by more than the limit outside a ramp is a bad observation (44_debouncer.md R277). -/
theorem regBad_of_missed {v c : Measure} (hramp : s.transient = false)
    (hmiss : ((s.sp.get s.mode : Int) - (measured p s.mode v c : Int)).natAbs > p.REG_ERR_LIMIT.get s.mode) :
    regBad p v c s = true := by
  simpa [regBad, regError, hramp] using hmiss

/-- The counter of REG after it fires (44_debouncer.md R273). -/
def regRearm (p : Params) : Nat := if p.DEB_REARM = .holdBelow then p.DEB_N.reg - 1 else p.DEB_N.reg

/-- REG one short of its threshold fires: NIR is set before the cause is raised (44_debouncer.md R273). -/
theorem debStep_reg_fires (hdue : s.debCnt.reg + 1 = p.DEB_N.reg) :
    debStep p .reg true s = setCount .reg (regRearm p) (trigger p 0x0100 { s with nir := true }) := by
  obtain ⟨hgood, -⟩ | ⟨-, hbelow, -⟩ | ⟨-, -, he⟩ | ⟨-, hover, -⟩ := debStep_cases p s .reg true
  · exact absurd hgood nofun
  · exact absurd hdue (Nat.ne_of_lt hbelow)
  · simp only [decide_true, Bool.or_true] at he
    exact he
  · exact absurd (hdue ▸ hover : s.debCnt.reg + 1 ≤ s.debCnt.reg) (Nat.not_succ_le_self _)

/-- REG latched beside unmasked causes is a masked cause exactly where its own bit 8 is masked. -/
theorem regRaised_clear_iff {f m : FaultBits} (h : f &&& m = 0) :
    (f ||| 0x0100) &&& m = 0 ↔ m.getLsbD 8 = false := by
  have hbit : (0x0100 : FaultBits) &&& m = if m.getLsbD 8 then 0x0100 else 0 := by
    rw [BitVec.and_comm]
    exact BitVec.and_twoPow m 8
  have hsplit : (f ||| 0x0100) &&& m = 0x0100 &&& m := by
    rw [BitVec.and_or_distrib_right, h]
    exact BitVec.zero_or
  rw [hsplit, hbit]
  cases m.getLsbD 8 <;> decide

/-- REG fires with no masked cause latched then: the load stays on, out of regulation. -/
theorem debStep_reg_fires_of_clear (hdue : s.debCnt.reg + 1 = p.DEB_N.reg)
    (hclear : (s.fault ||| 0x0100) &&& s.faultMask = 0) :
    debStep p .reg true s =
      { s with
        debCnt := s.debCnt.set .reg (regRearm p), fault := s.fault ||| 0x0100, nir := true, faultActive := false,
        faultLed := false } := by
  rw [debStep_reg_fires hdue, trigger_of_clear (s := { s with nir := true }) hclear]
  rfl

/-- REG fires with a masked cause latched then: the load goes off, which clears NIR again (43_fault_enable.md R226). -/
theorem debStep_reg_fires_of_masked (hon : s.enabled = true) (hdue : s.debCnt.reg + 1 = p.DEB_N.reg)
    (hmasked : (s.fault ||| 0x0100) &&& s.faultMask ≠ 0) :
    debStep p .reg true s =
      { s with
        debCnt := s.debCnt.set .reg (regRearm p), fault := s.fault ||| 0x0100, nir := false, faultActive := true,
        faultLed := (s.fault ||| 0x0100) &&& s.faultMask &&& 0xDFFF != 0, pwrEn0 := false, pwrEn1 := false,
        dacCode := p.DAC_ZERO_CODE, dacTarget := p.DAC_ZERO_CODE, transient := false, slewRun := false,
        enabled := false, integ := 0, afeCont := false } := by
  rw [debStep_reg_fires hdue, trigger_of_masked (s := { s with nir := true }) hmasked,
    enableFalse_of_enabled (s := { s with nir := true, fault := _ }) hon]
  rfl

theorem debStep_of_below {ch : Channel} (h : s.debCnt.get ch + 1 < p.DEB_N.get ch) :
    debStep p ch true s = setCount ch (s.debCnt.get ch + 1) s := by
  obtain ⟨hgood, -⟩ | ⟨-, -, he⟩ | ⟨-, hdue, -⟩ | ⟨-, hover, -⟩ := debStep_cases p s ch true
  · exact absurd hgood nofun
  · exact he
  · exact absurd hdue h.ne
  · omega

theorem debStep_of_saturated {ch : Channel} (h : p.DEB_N.get ch ≤ s.debCnt.get ch) : debStep p ch true s = s := by
  obtain ⟨hgood, -⟩ | ⟨-, hbelow, -⟩ | ⟨-, hdue, -⟩ | ⟨-, -, he⟩ := debStep_cases p s ch true
  · exact absurd hgood nofun
  · omega
  · omega
  · exact he

/-! ## A period whose only bad observation is the regulation error -/

/-- No sensor, fan, fuse or protection observation is bad. -/
def allGood : Obs :=
  { otp := false, ocp := false, opp := false, ext := false, sensorBad := false, fanBad1 := false, fanBad2 := false,
    fuseBad1 := false, fuseBad2 := false, fuseBad3 := false, fuseBad4 := false }

/-- The counters `cnt` after a good observation of every channel but REG, which stands at `reg`. -/
def loweredCounts (cnt : PerChannel Nat) (reg : Nat) : PerChannel Nat :=
  { sensor := cnt.sensor - 1, fan1 := cnt.fan1 - 1, fan2 := cnt.fan2 - 1, reg := reg, fuse1 := cnt.fuse1 - 1,
    fuse2 := cnt.fuse2 - 1, fuse3 := cnt.fuse3 - 1, fuse4 := cnt.fuse4 - 1 }

theorem earlyCauses_allGood (p : Params) (s : State) : earlyCauses p allGood s = 0 := by
  simp [earlyCauses, allGood, causeIf, firesAt]

theorem wdgExpired_of_inTime {now : Millis} (h : (now - s.wdgLast).toNat ≤ p.WDG_TIMEOUT_MS) :
    wdgExpired p now s = false := by
  rw [wdgExpired, decide_eq_false (Nat.not_lt.mpr h), Bool.and_false]

theorem periodChecks_allGood {now : Millis} (hexp : wdgExpired p now s = false) :
    periodChecks p now allGood s = { s with debCnt := loweredCounts s.debCnt s.debCnt.reg } := by
  have hchecks := periodChecks_quiet hexp (earlyCauses_allGood p s) rfl rfl rfl rfl
  rw [periodChecks_debCnt] at hchecks
  exact hchecks

/-- The period is then the step of REG, on the counters the other channels have lowered. -/
theorem period_allGood_of_missed {now : Millis} {v c : Measure} (hon : s.enabled = true) (hramp : s.transient = false)
    (htime : (now - s.wdgLast).toNat ≤ p.WDG_TIMEOUT_MS)
    (hmiss : ((s.sp.get s.mode : Int) - (measured p s.mode v c : Int)).natAbs > p.REG_ERR_LIMIT.get s.mode) :
    period p now v c allGood s =
      debStep p .reg true { s with debCnt := loweredCounts s.debCnt s.debCnt.reg } := by
  have hbad : regBad p v c { s with debCnt := loweredCounts s.debCnt s.debCnt.reg } = true :=
    regBad_of_missed hramp hmiss
  simp only [period, periodChecks_allGood (wdgExpired_of_inTime htime)]
  rw [if_pos hon, regulationEval, hbad]

/-- Settles O45: the regulation step is a bad observation of REG, below, at or past its threshold; at it, whether the
cause is masked decides if the load stays on out of regulation. -/
theorem regulationFaultSetsNir : Obligations.RegulationFaultSetsNir := by
  refine ⟨fun p v c s hon hclear hdue hramp hmiss => ?step, ?period⟩
  case step =>
    rw [regulationEval, regBad_of_missed hramp hmiss]
    cases hmask : s.faultMask.getLsbD 8
    · rw [debStep_reg_fires_of_clear hdue ((regRaised_clear_iff hclear).mpr hmask)]
      exact ⟨rfl, rfl, hon⟩
    · have hmasked : (s.fault ||| 0x0100) &&& s.faultMask ≠ 0 := by
        rw [Ne, regRaised_clear_iff hclear, hmask]
        exact Bool.noConfusion
      rw [debStep_reg_fires_of_masked hon hdue hmasked]
      exact ⟨rfl, rfl, rfl⟩
  case period =>
    intro now v c s obs counts n rearm f hon hramp htime hmiss
    have row : ∀ {t}, debStep Config.params .reg true { s with debCnt := counts s.debCnt.reg } = t →
        exec (.evPeriod now v c obs) s = .next t := fun h =>
      congrArg Host.Outcome.next ((period_allGood_of_missed hon hramp htime hmiss).trans h)
    exact ⟨fun hbelow => row (debStep_of_below hbelow),
      fun hdue hclear => row (debStep_reg_fires_of_clear hdue hclear),
      fun hdue hmasked => row (debStep_reg_fires_of_masked hon hdue hmasked),
      fun hover => row (debStep_of_saturated hover)⟩

end Sys2Proof.Proofs
end

section
/-! The debouncer (44_debouncer.md R270, R273, R276 to R279): one observation case by case, the counter along a stream
of bad observations, and the measured quantity the regulation observation is taken from. -/

namespace Sys2Proof.Proofs

open Sys2Proof.Machine

variable {p : Params} {ch : Channel} {s : State}

/-! ## One observation -/

/-- The counter of channel `ch` after it fires (44_debouncer.md R273, R274). -/
def rearmCount (p : Params) (ch : Channel) : Nat :=
  if p.DEB_REARM = .holdBelow then p.DEB_N.get ch - 1 else p.DEB_N.get ch

theorem debStep_of_good (p : Params) (ch : Channel) (s : State) :
    debStep p ch false s = setCount ch (s.debCnt.get ch - 1) s := rfl

theorem debStep_of_due (h : s.debCnt.get ch + 1 = p.DEB_N.get ch) :
    debStep p ch true s =
      setCount ch (rearmCount p ch) (trigger p (channelBit ch) { s with nir := s.nir || decide (ch = .reg) }) := by
  obtain ⟨hgood, -⟩ | ⟨-, hbelow, -⟩ | ⟨-, -, he⟩ | ⟨-, hover, -⟩ := debStep_cases p s ch true
  · exact absurd hgood nofun
  · exact absurd h hbelow.ne
  · exact he
  · omega

/-- Settles O42: a good observation, and a bad one below, at and past the threshold. -/
theorem debounceStepCounts : Obligations.DebounceStepCounts := fun p ch s =>
  ⟨debStep_of_good p ch s, debStep_of_below, debStep_of_due, debStep_of_saturated⟩

/-- Settles O44: the closed gate makes the observation good, the open one hands it on. -/
theorem fuseGateTreatsRampAsGood : Obligations.FuseGateTreatsRampAsGood := by
  refine fun p ch bad s => ⟨fun hgate hramp => ?closed, fun hopen => ?opened⟩ <;> rw [fuseStep_eq]
  case closed =>
    have hgood : (bad && !(p.FUSE_TRANSIENT_GATE && s.transient)) = false := by
      rw [hgate, hramp, Bool.and_self, Bool.not_true, Bool.and_false]
    rw [hgood]
    exact debStep_of_good p ch s
  case opened => rw [Bool.and_eq_false_iff.mpr hopen, Bool.not_false, Bool.and_true]

/-! ## A stream of bad observations -/

/-- The counter after `n` bad observations from 0: it counts them up to the threshold and rests at its re-arm value. -/
def badRunCount (p : Params) (ch : Channel) (n : Nat) : Nat :=
  if n < p.DEB_N.get ch then n else rearmCount p ch

theorem badRunCount_of_lt {n : Nat} (h : n < p.DEB_N.get ch) : badRunCount p ch n = n := if_pos h

theorem badRunCount_of_le {n : Nat} (h : p.DEB_N.get ch ≤ n) : badRunCount p ch n = rearmCount p ch := if_neg h.not_gt

theorem nextCount_bad (p : Params) (ch : Channel) (c : Nat) :
    nextCount p ch true c =
      if c + 1 < p.DEB_N.get ch then c + 1 else if c + 1 = p.DEB_N.get ch then rearmCount p ch else c := rfl

/-- A bad observation leaves the re-arm value as it is: held below, it fires again; saturated, it rests. -/
theorem nextCount_rearmCount (p : Params) (ch : Channel) :
    nextCount p ch true (rearmCount p ch) = rearmCount p ch := by
  have hge : p.DEB_N.get ch ≤ rearmCount p ch + 1 := by
    unfold rearmCount
    split <;> omega
  rw [nextCount_bad, if_neg hge.not_gt, ite_self]

theorem nextCount_badRunCount (p : Params) (ch : Channel) (n : Nat) :
    nextCount p ch true (badRunCount p ch n) = badRunCount p ch (n + 1) := by
  obtain hbelow | hdue | hpast : n + 1 < p.DEB_N.get ch ∨ n + 1 = p.DEB_N.get ch ∨ p.DEB_N.get ch ≤ n := by omega
  · rw [badRunCount_of_lt (Nat.lt_of_succ_lt hbelow), nextCount_bad, if_pos hbelow, badRunCount_of_lt hbelow]
  · rw [badRunCount_of_lt hdue.le, nextCount_bad, if_neg hdue.not_lt, if_pos hdue, badRunCount_of_le hdue.ge]
  · rw [badRunCount_of_le hpast, nextCount_rearmCount, badRunCount_of_le (Nat.le_succ_of_le hpast)]

theorem badRun_count (h0 : s.debCnt.get ch = 0) (n : Nat) :
    (badRun p ch n s).debCnt.get ch = badRunCount p ch n := by
  induction n with
  | zero => exact h0.trans (badRunCount_of_lt (p.deb_n_pos ch)).symm
  | succ n ih => rw [badRun, debStep_debCnt, get_set_same, ih, nextCount_badRunCount]

theorem badRun_fires (h0 : s.debCnt.get ch = 0) (n : Nat) :
    debFires p ch true (badRun p ch n s) = decide (badRunCount p ch n + 1 = p.DEB_N.get ch) := by
  rw [debFires_eq, badRun_count h0, Bool.true_and]

/-- Held below the threshold, the counter is due from the N-th observation on. -/
theorem badRunCount_due_of_holdBelow (hre : p.DEB_REARM = .holdBelow) (n : Nat) :
    badRunCount p ch n + 1 = p.DEB_N.get ch ↔ p.DEB_N.get ch ≤ n + 1 := by
  have hpos := p.deb_n_pos ch
  rw [badRunCount, rearmCount, if_pos hre]
  split <;> omega

/-- Saturated at the threshold, the counter is due at the N-th observation alone. -/
theorem badRunCount_due_of_saturate (hre : p.DEB_REARM = .saturate) (n : Nat) :
    badRunCount p ch n + 1 = p.DEB_N.get ch ↔ n + 1 = p.DEB_N.get ch := by
  have hne : p.DEB_REARM ≠ .holdBelow := by rw [hre]; exact nofun
  rw [badRunCount, rearmCount, if_neg hne]
  split <;> omega

/-- The bit rises at the N-th observation; a later firing latches what is latched. -/
theorem badRun_fault (h0 : s.debCnt.get ch = 0) (n : Nat) :
    (badRun p ch n s).fault = if n < p.DEB_N.get ch then s.fault else s.fault ||| channelBit ch := by
  induction n with
  | zero => exact (if_pos (p.deb_n_pos ch)).symm
  | succ n ih =>
    rw [badRun, debStep_fault, badRun_fires h0, ih]
    obtain hbelow | hdue | hpast : n + 1 < p.DEB_N.get ch ∨ n + 1 = p.DEB_N.get ch ∨ p.DEB_N.get ch ≤ n := by omega
    · have hn : n < p.DEB_N.get ch := Nat.lt_of_succ_lt hbelow
      rw [badRunCount_of_lt hn, decide_eq_false hbelow.ne, if_neg Bool.false_ne_true, if_pos hn, if_pos hbelow]
    · have hn : n < p.DEB_N.get ch := hdue.le
      rw [badRunCount_of_lt hn, decide_eq_true hdue, if_pos rfl, if_pos hn, if_neg hdue.not_lt]
    · rw [if_neg hpast.not_gt, if_neg (Nat.le_succ_of_le hpast).not_gt, BitVec.or_assoc, BitVec.or_self, ite_self]

/-- Settles O43: the channel fires where its counter along the stream is due. -/
theorem debounceFiresOnNthBadObservation : Obligations.DebounceFiresOnNthBadObservation := by
  intro p ch s bit h0 _ n
  refine ⟨?fires, badRun_fault h0 n⟩
  rw [badRun_fires h0]
  split
  next hre => exact decide_eq_decide.mpr (badRunCount_due_of_holdBelow hre n)
  next hre => exact decide_eq_decide.mpr (badRunCount_due_of_saturate hre n)

/-! ## The regulation observation -/

theorem debStep_reg_count_of_other (p : Params) (bad : Bool) (s : State) (hch : ch ≠ .reg) :
    (debStep p ch bad s).debCnt.reg = s.debCnt.reg := by
  rw [debStep_debCnt]
  exact get_set_other s.debCnt _ hch.symm

/-- Settles O41: while the load is off every step of a period is one of another channel, and none turns it on. -/
theorem disabledLoadKeepsRegCounter : Obligations.DisabledLoadKeepsRegCounter := by
  intro now v c obs s hoff
  refine ⟨_, rfl, period_keeps (P := fun t => t.debCnt.reg = s.debCnt.reg ∧ t.enabled = false)
    ?disable ?raise ?deb now v c obs s ⟨rfl, hoff⟩⟩
  case disable =>
    rintro t ⟨hreg, -⟩
    exact ⟨(congrArg PerChannel.reg (enableFalse_debCnt Config.params t)).trans hreg, enableFalse_enabled _ t⟩
  case raise =>
    rintro bits t ⟨hreg, htoff⟩
    exact ⟨(congrArg PerChannel.reg (trigger_debCnt Config.params t bits)).trans hreg, trigger_of_off bits htoff⟩
  case deb =>
    rintro ch bad t hon ⟨hreg, htoff⟩
    have hch : ch ≠ .reg := fun h => absurd ((hon h).symm.trans htoff) nofun
    exact ⟨(debStep_reg_count_of_other _ bad t hch).trans hreg, debStep_of_off ch bad htoff⟩

/-- Settles O46: the arm of each mode, with R_SCALE written out. -/
theorem measuredQuantities : Obligations.MeasuredQuantities := fun _ _ _ =>
  ⟨rfl, rfl, fun hzero => if_pos hzero, fun hflow => if_neg hflow, rfl⟩

end Sys2Proof.Proofs
end

section
/-! The slew stepper (45_slew_dac.md R292, R294, R296): one tick by the distance the ramp still has to go, and the ticks
of a whole ramp. -/

namespace Sys2Proof.Proofs

open Sys2Proof.Machine

variable {p : Params} {s : State}

/-! ## One tick -/

theorem slewTick_of_within (hrun : s.slewRun = true) (hnear : rampDistance s ≤ p.SLEW_DELTA) :
    slewTick p s = { s with dacCode := s.dacTarget, transient := false, slewRun := false } := by
  rw [rampDistance] at hnear
  obtain ⟨hstopped, -⟩ | ⟨-, -, -, he⟩ | ⟨-, hfar, -⟩ | ⟨-, hfar, -⟩ := slewTick_cases p s
  · exact absurd (hstopped.symm.trans hrun) nofun
  · exact he
  · omega
  · omega

theorem slewTick_of_above (hrun : s.slewRun = true) (hfar : s.dacTarget > s.dacCode + p.SLEW_DELTA) :
    slewTick p s = { s with dacCode := s.dacCode + p.SLEW_DELTA } := by
  obtain ⟨hstopped, -⟩ | ⟨-, hnear, -⟩ | ⟨-, -, he⟩ | ⟨-, hbelow, -⟩ := slewTick_cases p s
  · exact absurd (hstopped.symm.trans hrun) nofun
  · omega
  · exact he
  · omega

theorem slewTick_of_below (hrun : s.slewRun = true) (hfar : s.dacTarget + p.SLEW_DELTA < s.dacCode) :
    slewTick p s = { s with dacCode := s.dacCode - p.SLEW_DELTA } := by
  obtain ⟨hstopped, -⟩ | ⟨-, -, hnear, -⟩ | ⟨-, habove, -⟩ | ⟨-, -, he⟩ := slewTick_cases p s
  · exact absurd (hstopped.symm.trans hrun) nofun
  · omega
  · omega
  · exact he

/-- Settles O47: the target within a step, further above, and further below. -/
theorem slewTickStepsTowardTarget : Obligations.SlewTickStepsTowardTarget := fun _ hrun =>
  ⟨fun hnear => congrArg Host.Outcome.next (slewTick_of_within hrun hnear),
    fun habove => congrArg Host.Outcome.next (slewTick_of_above hrun habove),
    fun hbelow => congrArg Host.Outcome.next (slewTick_of_below hrun hbelow)⟩

/-- A tick that does not land moves the code only. -/
theorem slewTick_of_beyond (hrun : s.slewRun = true) (hfar : p.SLEW_DELTA < rampDistance s) :
    slewTick p s = { s with dacCode := (slewTick p s).dacCode } := by
  obtain habove | hbelow : s.dacTarget > s.dacCode + p.SLEW_DELTA ∨ s.dacTarget + p.SLEW_DELTA < s.dacCode := by
    rw [rampDistance] at hfar
    omega
  · rw [slewTick_of_above hrun habove]
  · rw [slewTick_of_below hrun hbelow]

theorem slewTick_rampDistance (hrun : s.slewRun = true) :
    rampDistance (slewTick p s) = rampDistance s - p.SLEW_DELTA := by
  obtain ⟨hstopped, -⟩ | ⟨-, _, _, he⟩ | ⟨-, _, he⟩ | ⟨-, _, he⟩ := slewTick_cases p s
  · exact absurd (hstopped.symm.trans hrun) nofun
  all_goals
    simp only [he, rampDistance]
    omega

theorem slewTick_rises (p : Params) (h : s.dacCode ≤ s.dacTarget) :
    s.dacCode ≤ (slewTick p s).dacCode ∧ (slewTick p s).dacCode ≤ s.dacTarget := by
  obtain ⟨-, he⟩ | ⟨-, -, -, he⟩ | ⟨-, hfar, he⟩ | ⟨-, hfar, -⟩ := slewTick_cases p s
  · exact he.symm ▸ ⟨le_rfl, h⟩
  · exact he.symm ▸ ⟨h, le_rfl⟩
  · exact he.symm ▸ ⟨Nat.le_add_right _ _, hfar.le⟩
  · omega

theorem slewTick_falls (p : Params) (h : s.dacTarget ≤ s.dacCode) :
    (slewTick p s).dacCode ≤ s.dacCode ∧ s.dacTarget ≤ (slewTick p s).dacCode := by
  obtain ⟨-, he⟩ | ⟨-, -, -, he⟩ | ⟨-, hfar, -⟩ | ⟨-, hfar, he⟩ := slewTick_cases p s
  · exact he.symm ▸ ⟨le_rfl, h⟩
  · exact he.symm ▸ ⟨h, le_rfl⟩
  · omega
  · exact he.symm ▸ ⟨Nat.sub_le _ _, Nat.le_sub_of_add_le hfar.le⟩

/-! ## A whole ramp -/

/-- `t` is the ramp of `s` after `n` ticks none of which landed: the code alone has moved, `n` steps nearer to the
target and not past it. -/
structure OnRamp (p : Params) (s : State) (n : Nat) (t : State) : Prop where
  frame : t = { s with dacCode := t.dacCode }
  distance : rampDistance t = rampDistance s - n * p.SLEW_DELTA
  rising : s.dacCode < s.dacTarget → t.dacCode ≤ s.dacTarget
  falling : s.dacTarget < s.dacCode → s.dacTarget ≤ t.dacCode

namespace OnRamp

variable {n : Nat} {t : State}

theorem start (p : Params) (s : State) : OnRamp p s 0 s :=
  ⟨rfl, by rw [Nat.zero_mul, Nat.sub_zero], Nat.le_of_lt, Nat.le_of_lt⟩

theorem slewRun_eq (h : OnRamp p s n t) : t.slewRun = s.slewRun := by rw [h.frame]

theorem transient_eq (h : OnRamp p s n t) : t.transient = s.transient := by rw [h.frame]

theorem dacTarget_eq (h : OnRamp p s n t) : t.dacTarget = s.dacTarget := by rw [h.frame]

theorem tick_rises (h : OnRamp p s n t) (hup : s.dacCode < s.dacTarget) :
    t.dacCode ≤ (slewTick p t).dacCode ∧ (slewTick p t).dacCode ≤ s.dacTarget := by
  rw [← h.dacTarget_eq]
  exact slewTick_rises p (h.dacTarget_eq.symm ▸ h.rising hup)

theorem tick_falls (h : OnRamp p s n t) (hdown : s.dacTarget < s.dacCode) :
    (slewTick p t).dacCode ≤ t.dacCode ∧ s.dacTarget ≤ (slewTick p t).dacCode := by
  rw [← h.dacTarget_eq]
  exact slewTick_falls p (h.dacTarget_eq.symm ▸ h.falling hdown)

/-- A tick with more than SLEW_DELTA still to go stays on the ramp. -/
theorem tick (h : OnRamp p s n t) (hrun : s.slewRun = true) (hfar : (n + 1) * p.SLEW_DELTA < rampDistance s) :
    OnRamp p s (n + 1) (slewTick p t) := by
  have htrun : t.slewRun = true := h.slewRun_eq.trans hrun
  rw [Nat.succ_mul] at hfar
  have htfar : p.SLEW_DELTA < rampDistance t := by
    rw [h.distance]
    omega
  refine ⟨?frame, ?distance, fun hup => (h.tick_rises hup).2, fun hdown => (h.tick_falls hdown).2⟩
  case frame =>
    have hmoved := slewTick_of_beyond htrun htfar
    rw [h.frame] at hmoved ⊢
    exact hmoved
  case distance => rw [slewTick_rampDistance htrun, h.distance, Nat.succ_mul, Nat.sub_sub]

/-- A tick with at most SLEW_DELTA still to go ends the ramp. -/
theorem tick_lands (h : OnRamp p s n t) (hrun : s.slewRun = true) (hnear : rampDistance s ≤ (n + 1) * p.SLEW_DELTA) :
    slewTick p t = { s with dacCode := s.dacTarget, transient := false, slewRun := false } := by
  rw [Nat.succ_mul] at hnear
  have htnear : rampDistance t ≤ p.SLEW_DELTA := by
    rw [h.distance]
    omega
  rw [slewTick_of_within (h.slewRun_eq.trans hrun) htnear, h.frame]

end OnRamp

/-- Before the distance is used up the ramp is still running. -/
theorem slewTicks_onRamp (hrun : s.slewRun = true) :
    ∀ n, n * p.SLEW_DELTA < rampDistance s → OnRamp p s n (slewTicks p n s)
  | 0, _ => .start p s
  | n + 1, hfar =>
    have hearlier : n * p.SLEW_DELTA < rampDistance s := (Nat.mul_le_mul_right _ n.le_succ).trans_lt hfar
    (slewTicks_onRamp hrun n hearlier).tick hrun hfar

/-- The ticks of a ramp from `s`: its distance over SLEW_DELTA, rounded up (45_slew_dac.md R296). -/
def rampTicks (p : Params) (s : State) : Nat := (rampDistance s + p.SLEW_DELTA - 1) / p.SLEW_DELTA

theorem rampTicks_le_iff {n : Nat} : rampTicks p s ≤ n ↔ rampDistance s ≤ n * p.SLEW_DELTA := by
  rw [rampTicks, ← Nat.ceilDiv_eq_add_pred_div, ceilDiv_le_iff_le_mul p.slew_delta_pos, Nat.mul_comm]

theorem lt_rampTicks_iff {n : Nat} : n < rampTicks p s ↔ n * p.SLEW_DELTA < rampDistance s := by
  rw [← not_le, rampTicks_le_iff, not_le]

theorem rampTicks_pos (hne : s.dacCode ≠ s.dacTarget) : 0 < rampTicks p s := by
  rw [lt_rampTicks_iff, rampDistance]
  omega

/-- The last tick lands on the target. -/
theorem slewTicks_rampTicks (hrun : s.slewRun = true) (hne : s.dacCode ≠ s.dacTarget) :
    slewTicks p (rampTicks p s) s = { s with dacCode := s.dacTarget, transient := false, slewRun := false } := by
  obtain ⟨n, hn⟩ := Nat.exists_eq_add_one.mpr (rampTicks_pos (p := p) hne)
  have hlast : OnRamp p s n (slewTicks p n s) :=
    slewTicks_onRamp hrun n (lt_rampTicks_iff.mp (hn ▸ n.lt_succ_self))
  rw [hn]
  exact hlast.tick_lands hrun (rampTicks_le_iff.mp hn.le)

/-- Settles O48: every tick but the last stays on the ramp, by induction on the ticks, and the last one lands. -/
theorem rampTakesCeilingOfDistanceTicks : Obligations.RampTakesCeilingOfDistanceTicks := by
  refine fun p s hrun hramp hne => ⟨fun n hn => ?running, slewTicks_rampTicks hrun hne⟩
  have h : OnRamp p s n (slewTicks p n s) := slewTicks_onRamp hrun n (lt_rampTicks_iff.mp hn)
  exact ⟨h.transient_eq.trans hramp, h.slewRun_eq.trans hrun, slewTick_rampDistance (h.slewRun_eq.trans hrun),
    h.tick_rises, h.tick_falls⟩

end Sys2Proof.Proofs
end

section
/-! The PI loop (46_pid.md R310 to R313): the gate of a sample, one PI step of an enabled closed-loop load, and the
integrator under every other instruction. -/

namespace Sys2Proof.Proofs

open Sys2Proof.Machine

variable {p : Params} {s t : State}

/-! ## One sample -/

/-- Settles O49: a sample that does anything finds the load enabled and the mode closed-loop. -/
theorem sampleNeedsEnabledClosedLoop : Obligations.SampleNeedsEnabledClosedLoop := by
  intro v c s hgate
  obtain he | ⟨hon, hloop, -⟩ := sample_cases Config.params s v c
  · exact congrArg Host.Outcome.next he
  · obtain hoff | hcc := hgate
    · exact absurd (hon.symm.trans hoff) nofun
    · exact absurd hcc hloop

@[simp] theorem modeLoop_loopMode (m : Loop) : modeLoop (loopMode m) = some m := by cases m <;> rfl

theorem clampInt_clampInt {lo hi : Int} (h : lo ≤ hi) (x : Int) :
    clampInt (clampInt x lo hi) lo hi = clampInt x lo hi := by
  unfold clampInt
  omega

/-- `write_code` clamps to the range the PI step has clamped to already (45_slew_dac.md R291). -/
theorem writeDacCode_clampInt (p : Params) (u : Int) (s : State) :
    writeDacCode p (clampInt u 0 p.DAC_ZERO_CODE) s = writeDacCode p u s := by
  unfold writeDacCode
  rw [clampInt_clampInt (Int.natCast_nonneg _)]

theorem pidUpdate_eq_writeDacCode (p : Params) (m : Loop) (v c : Measure) (s : State) :
    pidUpdate p m v c s =
      writeDacCode p
        (pidOutput p m (pidError p m (s.sp.get (loopMode m)) v c)
          (nextInteg p m (pidError p m (s.sp.get (loopMode m)) v c) s.integ))
        { s with integ := nextInteg p m (pidError p m (s.sp.get (loopMode m)) v c) s.integ } :=
  writeDacCode_clampInt p _ _

theorem sample_of_closedLoop {m : Loop} (v c : Measure) (hon : s.enabled = true) (hm : s.mode = loopMode m) :
    sample p v c s = pidUpdate p m v c s := by
  have hloop : modeLoop s.mode = some m := by rw [hm, modeLoop_loopMode]
  unfold sample
  rw [hloop]
  exact if_pos hon

/-- The error of the loop the load is in reads that mode's setpoint and measured quantity (46_pid.md R311). -/
theorem pidError_of_mode {m : Loop} (v c : Measure) (hm : s.mode = loopMode m) :
    pidError p m (s.sp.get (loopMode m)) v c =
      signValue (p.PID_SIGN.get m) * ((s.sp.get s.mode : Int) - (measured p s.mode v c : Int)) := by
  rw [hm, pidError]

/-- Settles O50: the gate is open, so the sample is one PI step, whose second clamp changes nothing. -/
theorem sampleRunsPiStep : Obligations.SampleRunsPiStep := by
  intro v c s m hon hm
  have hstep := sample_of_closedLoop (p := Config.params) v c hon hm
  rw [pidUpdate_eq_writeDacCode, pidError_of_mode v c hm] at hstep
  exact congrArg Host.Outcome.next hstep

/-! ## The integrator under the other instructions -/

/-- The integrator of `t` is that of `s`, or 0 (46_pid.md R313). -/
def IntegKept (s t : State) : Prop := t.integ = s.integ ∨ t.integ = 0

theorem IntegKept.trans {u : State} (hst : IntegKept s t) (htu : IntegKept t u) : IntegKept s u := by
  obtain htu | htu := htu
  · exact hst.imp htu.trans htu.trans
  · exact .inr htu

theorem SerialOnly.integ (h : SerialOnly s t) : t.integ = s.integ := by
  unfold SerialOnly at h
  rw [h]
  rfl

theorem trigger_integKept (bits : FaultBits) : IntegKept s (trigger p bits s) := by
  rw [trigger_eq_checkFaults]
  exact checkFaults_integ p _

theorem wrSpCc_integ (p : Params) (d : Data) (s : State) : (wrSpCc p d s).integ = s.integ := by
  obtain ⟨-, -, he⟩ | ⟨-, he⟩ := wrSpCc_cases p s d <;> rw [he]
  rw [setCurrent_integ]

theorem dispatch_integKept (now : Millis) (c : FrameCommand) : IntegKept s (dispatch p now c s) :=
  dispatch_rule (P := IntegKept s) (.inl rfl) (enableTrue_integ now) (enableFalse_integ p s) (fun _ => .inr rfl)
    (fun d => .inl (wrSpCc_integ p d s)) (fun _ => .inl rfl) (fun _ => .inl rfl) (fun _ => .inl rfl)
    (fun _ _ => checkFaults_integ p _) (fun _ => checkFaults_integ p _) (.inl rfl) (fun _ _ => .inl rfl)
    (trigger_integKept bitCrc)

theorem dequeue_integKept (now : Millis) : IntegKept s (dequeue p now s) := by
  obtain ⟨-, he⟩ | ⟨-, he⟩ := dequeue_cases p now s <;> rw [he]
  · exact .inl rfl
  · exact dispatch_integKept now _

theorem period_integKept (now : Millis) (v c : Measure) (obs : Obs) : IntegKept s (period p now v c obs s) :=
  period_keeps (P := IntegKept s) (fun t h => h.trans (enableFalse_integ p t))
    (fun bits _ h => h.trans (trigger_integKept bits)) (fun ch bad _ _ h => h.trans (debStep_integ ch bad))
    now v c obs s (.inl rfl)

theorem slewTick_integ (p : Params) (s : State) : (slewTick p s).integ = s.integ := by
  obtain ⟨-, he⟩ | ⟨-, -, -, he⟩ | ⟨-, -, he⟩ | ⟨-, -, he⟩ := slewTick_cases p s <;> rw [he]

/-- Settles O51: the serial side, the slew tick and the self-test report do not reach the integrator; a frame command or
a period can only zero it, by disabling, enabling or changing the mode, and a reset zeroes it. -/
theorem onlySampleMovesIntegrator : Obligations.OnlySampleMovesIntegrator := by
  intro i s t hother hexec
  have kept : ∀ u, exec i s = .next u → IntegKept s u → IntegKept s t := by
    intro u hu hinteg
    obtain rfl := next_inj (hexec.symm.trans hu)
    exact hinteg
  obtain ⟨u, hu, hserial⟩ | ⟨now, c, rfl⟩ | ⟨now, rfl⟩ | ⟨now, v, c, obs, rfl⟩ | ⟨v, c, rfl⟩ | rfl | ⟨r, rfl⟩ | rfl :=
    exec_cases i s
  · exact kept u hu (.inl hserial.integ)
  · exact kept _ (exec_instrOfFrame now c s) (dispatch_integKept now c)
  · exact kept _ rfl (dequeue_integKept now)
  · exact kept _ rfl (period_integKept now v c obs)
  · exact absurd rfl (hother v c)
  · exact kept _ rfl (.inl (slewTick_integ _ s))
  · exact kept _ rfl (.inl rfl)
  · exact kept _ rfl (.inr rfl)

end Sys2Proof.Proofs
end

section
/-! The reset state (70_reset_and_hazards.md R360, R361): what the emptied table reads as, and the invariants an
EV_RESET establishes from any state, the reset state among them. -/

namespace Sys2Proof.Proofs

open Sys2Proof.Machine

variable (p : Params) (s : State)

/-! ## The table of value 0 -/

theorem entryCode_zero (a : Addr) : entryCode p a 0 = ~~~((p.READ_CODE_DIR ++ a) ^^^ 0 ^^^ 0) := rfl

/-- An address nothing is stored at reads as the blank entry (10_state.md R38). -/
theorem tableEntry_nil (a : Addr) : tableEntry p [] a = { val := 0, code := entryCode p a 0 } := rfl

theorem tableEntry_resetBlock (a : Addr) :
    tableEntry p (resetBlock p s).table a = { val := 0, code := entryCode p a 0 } := by
  rw [resetBlock_table, tableEntry_nil]

/-- Settles O52: EV_RESET answers `resetBlock`, whose registers are compared one by one with R361's, and whose table
lists no entry. -/
theorem resetRestoresEveryRegister : Obligations.ResetRestoresEveryRegister := by
  intro s
  refine ⟨resetBlock Config.params s, rfl, ?registers, fun a => ?entries⟩
  case registers => apply State.ext <;> simp [allFaults]
  case entries => rw [tableEntry_resetBlock, entryCode_zero]

/-! ## The invariants -/

theorem resetBlock_engineOk : (resetBlock p s).EngineOk := ⟨rfl, by simp⟩

theorem resetBlock_ok : (resetBlock p s).Ok p where
  engine := resetBlock_engineOk p s
  queue := resetBlock_queueOk p s
  table := resetBlock_tableOk p s
  fault := resetBlock_faultOk p s
  load := resetBlock_loadOk p s
  ranges := resetBlock_rangesOk p s

theorem resetBlock_status : (resetBlock p s).status = 0 := by
  simp [State.status]

theorem resetBlock_enableState : (resetBlock p s).enableState = .disabled := by
  simp [State.enableState]

/-- The machine starts in a state an EV_RESET leaves as it is, so what holds of `resetBlock` holds of it. -/
theorem resetBlock_reset : resetBlock Config.params State.reset = State.reset := rfl

/-- Settles O54: the reset state is a `resetBlock`, which meets every invariant. -/
theorem resetStateIsWellFormed : Obligations.ResetStateIsWellFormed := by
  unfold Obligations.ResetStateIsWellFormed
  rw [← resetBlock_reset]
  exact ⟨resetBlock_ok _ _, resetBlock_status _ _, resetBlock_enableState _ _, tableEntry_resetBlock _ _⟩

end Sys2Proof.Proofs
end
